-- ==== Sys2Proof/Word.lean ====
section
/-! DEFINITION. The word types of the block: bytes, addresses and half-cycles (R7, R8 of spec/00_scope.md).
Every value is unsigned; addition on a bit vector wraps at its width, which is what R8 asks of 16-bit addition and R100 of
the 3-bit counter. -/

namespace Sys2Proof

/-- A byte: DATA_WIDTH is 8 (R7). -/
abbrev Byte := BitVec 8

/-- A bus address: ADDR_WIDTH and PC_WIDTH are 16, bit 15 is A15 (R7). -/
abbrev Addr := BitVec 16

/-- A half-cycle: the position 0 to 7 in a machine cycle, 3 bits (R20, R12). -/
abbrev HalfCycle := BitVec 3

end Sys2Proof
end

