-- ==== Sys2Proof/Syntax.lean ====
section
/-! DEFINITION. The syntax of the block: the enumerations of R11 of spec/00_scope.md, what a handler may do and answer (R182, R183 of
spec/43_dispatch.md), the commands an agent may issue (R74 of spec/30_encoding.md), and Instr, one constructor per row of
spec/opcode_table.json. -/

namespace Sys2Proof

/-- The top-level mode (R11, R27): what a tick does. -/
inductive TopState where
  | fetch
  | execute
  | test
deriving DecidableEq, Repr, Inhabited

/-- A handler's reply (R75): more cycles remain, or this was the final cycle. -/
inductive Status where
  | moreCycles
  | finalCycle
deriving DecidableEq, Repr, Inhabited

/-- The bus class of an address, which selects the timing of a transaction (R11, R52). -/
inductive Region where
  | rom
  | ram
  | hramIo
deriving DecidableEq, Repr, Inhabited

/-- The class of an address by range alone; `other` is 0x8000 to 0x9FFF, which R53 maps to a Region. -/
inductive AddressClass where
  | rom
  | other
  | ram
  | hramIo
deriving DecidableEq, Repr, Inhabited

/-- The direction of a bus transaction (R120). -/
inductive Direction where
  | read
  | write
deriving DecidableEq, Repr, Inhabited

/-- The values of the open parameter HRAM_WRITE_HC3 (R7, R124): what write row 3 does in the HRAM_IO class. -/
inductive HramWriteHc3 where
  | full
  | strobeOnly
  | none
deriving DecidableEq, Repr, Inhabited

/-- The codes of the model faults (R201). -/
inductive FaultCode where
  | beginBusy
  | stepIdle
deriving DecidableEq, Repr, Inhabited

/-- The commands that can raise a model fault (R201: the recorded value names the command). -/
inductive BusCommand where
  | beginRead
  | beginWrite
  | stepRead
  | stepWrite
deriving DecidableEq, Repr, Inhabited

/-- The operand of HARNESS_SET (R164): a field of the block with a value of that field's width. The first nine are the fields the harness
may write in TEST; the last five are the fields it may not write, which wellFormed refuses. -/
inductive HarnessWrite where
  | programCounter (v : Addr)
  | instructionLatch (v : Byte)
  | addressLatch (v : Addr)
  | dataLatch (v : Byte)
  | pinAddress (v : Addr)
  | pinData (v : Byte)
  | pinReadStrobe (v : Bool)
  | pinWriteStrobe (v : Bool)
  | pinChipSelect (v : Bool)
  | halfCycle (v : HalfCycle)
  | phase (v : Bool)
  | readInFlight (v : Bool)
  | writeInFlight (v : Bool)
  | topState (v : TopState)
deriving DecidableEq, Repr, Inhabited

/-- One effect a handler may have during an invocation (R183 (b), (c), (d)), for handlers whose own part of the open type HandlerState is `H`
(R7, R28). No other effect can be written down: a handler that does anything else is outside the block's contract (R205 (c)). -/
inductive HandlerActionOver (H : Type) where
  | beginRead (a : Addr)
  | beginWrite (a : Addr) (d : Byte)
  | stepRead
  | stepWrite
  | setProgramCounter (v : Addr)
  | setOwn (v : H)
deriving DecidableEq, Repr, Inhabited

/-- What one handler invocation does: a finite sequence of effects, then one Status (R182). -/
structure HandlerReplyOver (H : Type) where
  actions : List (HandlerActionOver H)
  status : Status
deriving DecidableEq, Repr, Inhabited

/-- The commands an agent outside the block may issue between ticks (R74). ADVANCE is not among them: only the end of a tick issues it
(R74, R102, R240). -/
inductive Command where
  | tick
  | reset
  | enterTest
  | beginRead (a : Addr)
  | beginWrite (a : Addr) (d : Byte)
  | stepRead
  | stepWrite
  | driveData (d : Byte)
  | harnessSet (w : HarnessWrite)
deriving DecidableEq, Repr, Inhabited

/-- The rows of spec/opcode_table.json. An opcode constructor (`nop`, `op01` to `opFF`) stands for one invocation of the handler the
dispatch table holds for that byte (R181, R185 to R187); a command constructor stands for the command of R74. -/
inductive Instr where
  | tick
  | reset
  | enterTest
  | beginRead (a : Addr)
  | beginWrite (a : Addr) (d : Byte)
  | stepRead
  | stepWrite
  | advance
  | driveData (d : Byte)
  | harnessSet (w : HarnessWrite)
  | nop | op01 | op02 | op03 | op04 | op05 | op06 | op07
  | op08 | op09 | op0A | op0B | op0C | op0D | op0E | op0F
  | op10 | op11 | op12 | op13 | op14 | op15 | op16 | op17
  | op18 | op19 | op1A | op1B | op1C | op1D | op1E | op1F
  | op20 | op21 | op22 | op23 | op24 | op25 | op26 | op27
  | op28 | op29 | op2A | op2B | op2C | op2D | op2E | op2F
  | op30 | op31 | op32 | op33 | op34 | op35 | op36 | op37
  | op38 | op39 | op3A | op3B | op3C | op3D | op3E | op3F
  | op40 | op41 | op42 | op43 | op44 | op45 | op46 | op47
  | op48 | op49 | op4A | op4B | op4C | op4D | op4E | op4F
  | op50 | op51 | op52 | op53 | op54 | op55 | op56 | op57
  | op58 | op59 | op5A | op5B | op5C | op5D | op5E | op5F
  | op60 | op61 | op62 | op63 | op64 | op65 | op66 | op67
  | op68 | op69 | op6A | op6B | op6C | op6D | op6E | op6F
  | op70 | op71 | op72 | op73 | op74 | op75 | op76 | op77
  | op78 | op79 | op7A | op7B | op7C | op7D | op7E | op7F
  | op80 | op81 | op82 | op83 | op84 | op85 | op86 | op87
  | op88 | op89 | op8A | op8B | op8C | op8D | op8E | op8F
  | op90 | op91 | op92 | op93 | op94 | op95 | op96 | op97
  | op98 | op99 | op9A | op9B | op9C | op9D | op9E | op9F
  | opA0 | opA1 | opA2 | opA3 | opA4 | opA5 | opA6 | opA7
  | opA8 | opA9 | opAA | opAB | opAC | opAD | opAE | opAF
  | opB0 | opB1 | opB2 | opB3 | opB4 | opB5 | opB6 | opB7
  | opB8 | opB9 | opBA | opBB | opBC | opBD | opBE | opBF
  | opC0 | opC1 | opC2 | opC3 | opC4 | opC5 | opC6 | opC7
  | opC8 | opC9 | opCA | opCB | opCC | opCD | opCE | opCF
  | opD0 | opD1 | opD2 | opD3 | opD4 | opD5 | opD6 | opD7
  | opD8 | opD9 | opDA | opDB | opDC | opDD | opDE | opDF
  | opE0 | opE1 | opE2 | opE3 | opE4 | opE5 | opE6 | opE7
  | opE8 | opE9 | opEA | opEB | opEC | opED | opEE | opEF
  | opF0 | opF1 | opF2 | opF3 | opF4 | opF5 | opF6 | opF7
  | opF8 | opF9 | opFA | opFB | opFC | opFD | opFE | opFF
deriving DecidableEq, Repr

end Sys2Proof
end

