-- ==== Sys2Proof/WellFormed.lean ====
section
/-! DEFINITION. Well-formedness of an instruction: the checks the types of its operands do not make. Every 16-bit address and every byte
is a legal operand (R55, R57, R110), so the one check is on the field HARNESS_SET names (R164 of spec/42_fetch_execute.md). -/

namespace Sys2Proof

/-- The fields the harness may write in TEST (R164 (b)); half_cycle, phase, the in-flight flags and top_state are not among them. -/
def HarnessWrite.allowed : HarnessWrite → Bool
  | .programCounter _ | .instructionLatch _ | .addressLatch _ | .dataLatch _ => true
  | .pinAddress _ | .pinData _ | .pinReadStrobe _ | .pinWriteStrobe _ | .pinChipSelect _ => true
  | .halfCycle _ | .phase _ | .readInFlight _ | .writeInFlight _ | .topState _ => false

/-- An instruction of R74 or of the dispatch table whose operands are in contract. -/
def wellFormed : Instr → Bool
  | .harnessSet w => w.allowed
  | .tick | .reset | .enterTest | .beginRead _ | .beginWrite _ _ | .stepRead | .stepWrite | .advance | .driveData _ => true
  | .nop | .op01 | .op02 | .op03 | .op04 | .op05 | .op06 | .op07 | .op08 | .op09
  | .op0A | .op0B | .op0C | .op0D | .op0E | .op0F | .op10 | .op11 | .op12 | .op13
  | .op14 | .op15 | .op16 | .op17 | .op18 | .op19 | .op1A | .op1B | .op1C | .op1D
  | .op1E | .op1F | .op20 | .op21 | .op22 | .op23 | .op24 | .op25 | .op26 | .op27
  | .op28 | .op29 | .op2A | .op2B | .op2C | .op2D | .op2E | .op2F | .op30 | .op31
  | .op32 | .op33 | .op34 | .op35 | .op36 | .op37 | .op38 | .op39 | .op3A | .op3B
  | .op3C | .op3D | .op3E | .op3F | .op40 | .op41 | .op42 | .op43 | .op44 | .op45
  | .op46 | .op47 | .op48 | .op49 | .op4A | .op4B | .op4C | .op4D | .op4E | .op4F
  | .op50 | .op51 | .op52 | .op53 | .op54 | .op55 | .op56 | .op57 | .op58 | .op59
  | .op5A | .op5B | .op5C | .op5D | .op5E | .op5F | .op60 | .op61 | .op62 | .op63
  | .op64 | .op65 | .op66 | .op67 | .op68 | .op69 | .op6A | .op6B | .op6C | .op6D
  | .op6E | .op6F | .op70 | .op71 | .op72 | .op73 | .op74 | .op75 | .op76 | .op77
  | .op78 | .op79 | .op7A | .op7B | .op7C | .op7D | .op7E | .op7F | .op80 | .op81
  | .op82 | .op83 | .op84 | .op85 | .op86 | .op87 | .op88 | .op89 | .op8A | .op8B
  | .op8C | .op8D | .op8E | .op8F | .op90 | .op91 | .op92 | .op93 | .op94 | .op95
  | .op96 | .op97 | .op98 | .op99 | .op9A | .op9B | .op9C | .op9D | .op9E | .op9F
  | .opA0 | .opA1 | .opA2 | .opA3 | .opA4 | .opA5 | .opA6 | .opA7 | .opA8 | .opA9
  | .opAA | .opAB | .opAC | .opAD | .opAE | .opAF | .opB0 | .opB1 | .opB2 | .opB3
  | .opB4 | .opB5 | .opB6 | .opB7 | .opB8 | .opB9 | .opBA | .opBB | .opBC | .opBD
  | .opBE | .opBF | .opC0 | .opC1 | .opC2 | .opC3 | .opC4 | .opC5 | .opC6 | .opC7
  | .opC8 | .opC9 | .opCA | .opCB | .opCC | .opCD | .opCE | .opCF | .opD0 | .opD1
  | .opD2 | .opD3 | .opD4 | .opD5 | .opD6 | .opD7 | .opD8 | .opD9 | .opDA | .opDB
  | .opDC | .opDD | .opDE | .opDF | .opE0 | .opE1 | .opE2 | .opE3 | .opE4 | .opE5
  | .opE6 | .opE7 | .opE8 | .opE9 | .opEA | .opEB | .opEC | .opED | .opEE | .opEF
  | .opF0 | .opF1 | .opF2 | .opF3 | .opF4 | .opF5 | .opF6 | .opF7 | .opF8 | .opF9
  | .opFA | .opFB | .opFC | .opFD | .opFE | .opFF => true

end Sys2Proof
end

