-- ==== Sys2Proof/Decode.lean ====
section
/-! DEFINITION. The decoder and the encoder. The block decodes one thing, the opcode byte: the whole byte is the index into a table of 256
entries (R70, R71 of spec/30_encoding.md, R181 of spec/43_dispatch.md). No byte is illegal; the decoder rejects only an empty list of
bytes, by name. The commands are port operations without a bit encoding (R74), so no bytes decode to one. -/

namespace Sys2Proof

/-- Why the decoder rejects a list of bytes. -/
inductive DecodeError where
  | noByte
deriving DecidableEq, Repr

/-- The opcodes 0x00 to 0x0F. -/
def opcodeRow0 : List Instr :=
  [.nop, .op01, .op02, .op03, .op04, .op05, .op06, .op07,
   .op08, .op09, .op0A, .op0B, .op0C, .op0D, .op0E, .op0F]

/-- The opcodes 0x10 to 0x1F. -/
def opcodeRow1 : List Instr :=
  [.op10, .op11, .op12, .op13, .op14, .op15, .op16, .op17,
   .op18, .op19, .op1A, .op1B, .op1C, .op1D, .op1E, .op1F]

/-- The opcodes 0x20 to 0x2F. -/
def opcodeRow2 : List Instr :=
  [.op20, .op21, .op22, .op23, .op24, .op25, .op26, .op27,
   .op28, .op29, .op2A, .op2B, .op2C, .op2D, .op2E, .op2F]

/-- The opcodes 0x30 to 0x3F. -/
def opcodeRow3 : List Instr :=
  [.op30, .op31, .op32, .op33, .op34, .op35, .op36, .op37,
   .op38, .op39, .op3A, .op3B, .op3C, .op3D, .op3E, .op3F]

/-- The opcodes 0x40 to 0x4F. -/
def opcodeRow4 : List Instr :=
  [.op40, .op41, .op42, .op43, .op44, .op45, .op46, .op47,
   .op48, .op49, .op4A, .op4B, .op4C, .op4D, .op4E, .op4F]

/-- The opcodes 0x50 to 0x5F. -/
def opcodeRow5 : List Instr :=
  [.op50, .op51, .op52, .op53, .op54, .op55, .op56, .op57,
   .op58, .op59, .op5A, .op5B, .op5C, .op5D, .op5E, .op5F]

/-- The opcodes 0x60 to 0x6F. -/
def opcodeRow6 : List Instr :=
  [.op60, .op61, .op62, .op63, .op64, .op65, .op66, .op67,
   .op68, .op69, .op6A, .op6B, .op6C, .op6D, .op6E, .op6F]

/-- The opcodes 0x70 to 0x7F. -/
def opcodeRow7 : List Instr :=
  [.op70, .op71, .op72, .op73, .op74, .op75, .op76, .op77,
   .op78, .op79, .op7A, .op7B, .op7C, .op7D, .op7E, .op7F]

/-- The opcodes 0x80 to 0x8F. -/
def opcodeRow8 : List Instr :=
  [.op80, .op81, .op82, .op83, .op84, .op85, .op86, .op87,
   .op88, .op89, .op8A, .op8B, .op8C, .op8D, .op8E, .op8F]

/-- The opcodes 0x90 to 0x9F. -/
def opcodeRow9 : List Instr :=
  [.op90, .op91, .op92, .op93, .op94, .op95, .op96, .op97,
   .op98, .op99, .op9A, .op9B, .op9C, .op9D, .op9E, .op9F]

/-- The opcodes 0xA0 to 0xAF. -/
def opcodeRowA : List Instr :=
  [.opA0, .opA1, .opA2, .opA3, .opA4, .opA5, .opA6, .opA7,
   .opA8, .opA9, .opAA, .opAB, .opAC, .opAD, .opAE, .opAF]

/-- The opcodes 0xB0 to 0xBF. -/
def opcodeRowB : List Instr :=
  [.opB0, .opB1, .opB2, .opB3, .opB4, .opB5, .opB6, .opB7,
   .opB8, .opB9, .opBA, .opBB, .opBC, .opBD, .opBE, .opBF]

/-- The opcodes 0xC0 to 0xCF. -/
def opcodeRowC : List Instr :=
  [.opC0, .opC1, .opC2, .opC3, .opC4, .opC5, .opC6, .opC7,
   .opC8, .opC9, .opCA, .opCB, .opCC, .opCD, .opCE, .opCF]

/-- The opcodes 0xD0 to 0xDF. -/
def opcodeRowD : List Instr :=
  [.opD0, .opD1, .opD2, .opD3, .opD4, .opD5, .opD6, .opD7,
   .opD8, .opD9, .opDA, .opDB, .opDC, .opDD, .opDE, .opDF]

/-- The opcodes 0xE0 to 0xEF. -/
def opcodeRowE : List Instr :=
  [.opE0, .opE1, .opE2, .opE3, .opE4, .opE5, .opE6, .opE7,
   .opE8, .opE9, .opEA, .opEB, .opEC, .opED, .opEE, .opEF]

/-- The opcodes 0xF0 to 0xFF. -/
def opcodeRowF : List Instr :=
  [.opF0, .opF1, .opF2, .opF3, .opF4, .opF5, .opF6, .opF7,
   .opF8, .opF9, .opFA, .opFB, .opFC, .opFD, .opFE, .opFF]

/-- The opcode table: the entry at index op is the row with match = op and mask = 0xFF (R76). -/
def opcodeTable : List Instr :=
  opcodeRow0 ++ opcodeRow1 ++ opcodeRow2 ++ opcodeRow3 ++ opcodeRow4 ++ opcodeRow5 ++ opcodeRow6 ++ opcodeRow7 ++
  opcodeRow8 ++ opcodeRow9 ++ opcodeRowA ++ opcodeRowB ++ opcodeRowC ++ opcodeRowD ++ opcodeRowE ++ opcodeRowF

/-- The table has an entry for each of the 256 indices (R7: DISPATCH_SIZE, R188). -/
theorem opcodeTable_length : opcodeTable.length = 256 := by
  simp only [opcodeTable, List.length_append]
  rfl

/-- The row an opcode byte selects: the table entry at index op, read as 0 to 255 (R71, R181). -/
def decodeOpcode (op : Byte) : Instr :=
  opcodeTable[op.toNat]'(by rw [opcodeTable_length]; exact op.isLt)

/-- The decoder: the first byte selects the instruction, and the rest is left unread (R70: the block reads no other byte). -/
def decode : List Byte → Except DecodeError (Instr × List Byte)
  | [] => .error .noByte
  | op :: rest => .ok (decodeOpcode op, rest)

/-- The instruction the decoder reads from `nbits` bits of value `w`: an opcode row has 8 bits, one byte (R70); no row has
another number of bits. -/
def decodeTableWord (nbits w : Nat) : Option Instr :=
  if nbits = 8 then
    match decode [BitVec.ofNat 8 w] with
    | .ok (i, _) => some i
    | .error _ => none
  else none

/-- The opcode byte of an instruction; a command has none (R74). -/
def Instr.opcode : Instr → Option Byte
  | .nop => some 0x00#8
  | .op01 => some 0x01#8
  | .op02 => some 0x02#8
  | .op03 => some 0x03#8
  | .op04 => some 0x04#8
  | .op05 => some 0x05#8
  | .op06 => some 0x06#8
  | .op07 => some 0x07#8
  | .op08 => some 0x08#8
  | .op09 => some 0x09#8
  | .op0A => some 0x0A#8
  | .op0B => some 0x0B#8
  | .op0C => some 0x0C#8
  | .op0D => some 0x0D#8
  | .op0E => some 0x0E#8
  | .op0F => some 0x0F#8
  | .op10 => some 0x10#8
  | .op11 => some 0x11#8
  | .op12 => some 0x12#8
  | .op13 => some 0x13#8
  | .op14 => some 0x14#8
  | .op15 => some 0x15#8
  | .op16 => some 0x16#8
  | .op17 => some 0x17#8
  | .op18 => some 0x18#8
  | .op19 => some 0x19#8
  | .op1A => some 0x1A#8
  | .op1B => some 0x1B#8
  | .op1C => some 0x1C#8
  | .op1D => some 0x1D#8
  | .op1E => some 0x1E#8
  | .op1F => some 0x1F#8
  | .op20 => some 0x20#8
  | .op21 => some 0x21#8
  | .op22 => some 0x22#8
  | .op23 => some 0x23#8
  | .op24 => some 0x24#8
  | .op25 => some 0x25#8
  | .op26 => some 0x26#8
  | .op27 => some 0x27#8
  | .op28 => some 0x28#8
  | .op29 => some 0x29#8
  | .op2A => some 0x2A#8
  | .op2B => some 0x2B#8
  | .op2C => some 0x2C#8
  | .op2D => some 0x2D#8
  | .op2E => some 0x2E#8
  | .op2F => some 0x2F#8
  | .op30 => some 0x30#8
  | .op31 => some 0x31#8
  | .op32 => some 0x32#8
  | .op33 => some 0x33#8
  | .op34 => some 0x34#8
  | .op35 => some 0x35#8
  | .op36 => some 0x36#8
  | .op37 => some 0x37#8
  | .op38 => some 0x38#8
  | .op39 => some 0x39#8
  | .op3A => some 0x3A#8
  | .op3B => some 0x3B#8
  | .op3C => some 0x3C#8
  | .op3D => some 0x3D#8
  | .op3E => some 0x3E#8
  | .op3F => some 0x3F#8
  | .op40 => some 0x40#8
  | .op41 => some 0x41#8
  | .op42 => some 0x42#8
  | .op43 => some 0x43#8
  | .op44 => some 0x44#8
  | .op45 => some 0x45#8
  | .op46 => some 0x46#8
  | .op47 => some 0x47#8
  | .op48 => some 0x48#8
  | .op49 => some 0x49#8
  | .op4A => some 0x4A#8
  | .op4B => some 0x4B#8
  | .op4C => some 0x4C#8
  | .op4D => some 0x4D#8
  | .op4E => some 0x4E#8
  | .op4F => some 0x4F#8
  | .op50 => some 0x50#8
  | .op51 => some 0x51#8
  | .op52 => some 0x52#8
  | .op53 => some 0x53#8
  | .op54 => some 0x54#8
  | .op55 => some 0x55#8
  | .op56 => some 0x56#8
  | .op57 => some 0x57#8
  | .op58 => some 0x58#8
  | .op59 => some 0x59#8
  | .op5A => some 0x5A#8
  | .op5B => some 0x5B#8
  | .op5C => some 0x5C#8
  | .op5D => some 0x5D#8
  | .op5E => some 0x5E#8
  | .op5F => some 0x5F#8
  | .op60 => some 0x60#8
  | .op61 => some 0x61#8
  | .op62 => some 0x62#8
  | .op63 => some 0x63#8
  | .op64 => some 0x64#8
  | .op65 => some 0x65#8
  | .op66 => some 0x66#8
  | .op67 => some 0x67#8
  | .op68 => some 0x68#8
  | .op69 => some 0x69#8
  | .op6A => some 0x6A#8
  | .op6B => some 0x6B#8
  | .op6C => some 0x6C#8
  | .op6D => some 0x6D#8
  | .op6E => some 0x6E#8
  | .op6F => some 0x6F#8
  | .op70 => some 0x70#8
  | .op71 => some 0x71#8
  | .op72 => some 0x72#8
  | .op73 => some 0x73#8
  | .op74 => some 0x74#8
  | .op75 => some 0x75#8
  | .op76 => some 0x76#8
  | .op77 => some 0x77#8
  | .op78 => some 0x78#8
  | .op79 => some 0x79#8
  | .op7A => some 0x7A#8
  | .op7B => some 0x7B#8
  | .op7C => some 0x7C#8
  | .op7D => some 0x7D#8
  | .op7E => some 0x7E#8
  | .op7F => some 0x7F#8
  | .op80 => some 0x80#8
  | .op81 => some 0x81#8
  | .op82 => some 0x82#8
  | .op83 => some 0x83#8
  | .op84 => some 0x84#8
  | .op85 => some 0x85#8
  | .op86 => some 0x86#8
  | .op87 => some 0x87#8
  | .op88 => some 0x88#8
  | .op89 => some 0x89#8
  | .op8A => some 0x8A#8
  | .op8B => some 0x8B#8
  | .op8C => some 0x8C#8
  | .op8D => some 0x8D#8
  | .op8E => some 0x8E#8
  | .op8F => some 0x8F#8
  | .op90 => some 0x90#8
  | .op91 => some 0x91#8
  | .op92 => some 0x92#8
  | .op93 => some 0x93#8
  | .op94 => some 0x94#8
  | .op95 => some 0x95#8
  | .op96 => some 0x96#8
  | .op97 => some 0x97#8
  | .op98 => some 0x98#8
  | .op99 => some 0x99#8
  | .op9A => some 0x9A#8
  | .op9B => some 0x9B#8
  | .op9C => some 0x9C#8
  | .op9D => some 0x9D#8
  | .op9E => some 0x9E#8
  | .op9F => some 0x9F#8
  | .opA0 => some 0xA0#8
  | .opA1 => some 0xA1#8
  | .opA2 => some 0xA2#8
  | .opA3 => some 0xA3#8
  | .opA4 => some 0xA4#8
  | .opA5 => some 0xA5#8
  | .opA6 => some 0xA6#8
  | .opA7 => some 0xA7#8
  | .opA8 => some 0xA8#8
  | .opA9 => some 0xA9#8
  | .opAA => some 0xAA#8
  | .opAB => some 0xAB#8
  | .opAC => some 0xAC#8
  | .opAD => some 0xAD#8
  | .opAE => some 0xAE#8
  | .opAF => some 0xAF#8
  | .opB0 => some 0xB0#8
  | .opB1 => some 0xB1#8
  | .opB2 => some 0xB2#8
  | .opB3 => some 0xB3#8
  | .opB4 => some 0xB4#8
  | .opB5 => some 0xB5#8
  | .opB6 => some 0xB6#8
  | .opB7 => some 0xB7#8
  | .opB8 => some 0xB8#8
  | .opB9 => some 0xB9#8
  | .opBA => some 0xBA#8
  | .opBB => some 0xBB#8
  | .opBC => some 0xBC#8
  | .opBD => some 0xBD#8
  | .opBE => some 0xBE#8
  | .opBF => some 0xBF#8
  | .opC0 => some 0xC0#8
  | .opC1 => some 0xC1#8
  | .opC2 => some 0xC2#8
  | .opC3 => some 0xC3#8
  | .opC4 => some 0xC4#8
  | .opC5 => some 0xC5#8
  | .opC6 => some 0xC6#8
  | .opC7 => some 0xC7#8
  | .opC8 => some 0xC8#8
  | .opC9 => some 0xC9#8
  | .opCA => some 0xCA#8
  | .opCB => some 0xCB#8
  | .opCC => some 0xCC#8
  | .opCD => some 0xCD#8
  | .opCE => some 0xCE#8
  | .opCF => some 0xCF#8
  | .opD0 => some 0xD0#8
  | .opD1 => some 0xD1#8
  | .opD2 => some 0xD2#8
  | .opD3 => some 0xD3#8
  | .opD4 => some 0xD4#8
  | .opD5 => some 0xD5#8
  | .opD6 => some 0xD6#8
  | .opD7 => some 0xD7#8
  | .opD8 => some 0xD8#8
  | .opD9 => some 0xD9#8
  | .opDA => some 0xDA#8
  | .opDB => some 0xDB#8
  | .opDC => some 0xDC#8
  | .opDD => some 0xDD#8
  | .opDE => some 0xDE#8
  | .opDF => some 0xDF#8
  | .opE0 => some 0xE0#8
  | .opE1 => some 0xE1#8
  | .opE2 => some 0xE2#8
  | .opE3 => some 0xE3#8
  | .opE4 => some 0xE4#8
  | .opE5 => some 0xE5#8
  | .opE6 => some 0xE6#8
  | .opE7 => some 0xE7#8
  | .opE8 => some 0xE8#8
  | .opE9 => some 0xE9#8
  | .opEA => some 0xEA#8
  | .opEB => some 0xEB#8
  | .opEC => some 0xEC#8
  | .opED => some 0xED#8
  | .opEE => some 0xEE#8
  | .opEF => some 0xEF#8
  | .opF0 => some 0xF0#8
  | .opF1 => some 0xF1#8
  | .opF2 => some 0xF2#8
  | .opF3 => some 0xF3#8
  | .opF4 => some 0xF4#8
  | .opF5 => some 0xF5#8
  | .opF6 => some 0xF6#8
  | .opF7 => some 0xF7#8
  | .opF8 => some 0xF8#8
  | .opF9 => some 0xF9#8
  | .opFA => some 0xFA#8
  | .opFB => some 0xFB#8
  | .opFC => some 0xFC#8
  | .opFD => some 0xFD#8
  | .opFE => some 0xFE#8
  | .opFF => some 0xFF#8
  | .tick | .reset | .enterTest | .beginRead _ | .beginWrite _ _ | .stepRead | .stepWrite | .advance | .driveData _ | .harnessSet _ => none

/-- The encoder: the bytes of an instruction. A command is a port operation without a bit encoding (R74), so it has no bytes. -/
def encode (i : Instr) : List Byte := i.opcode.toList

end Sys2Proof
end

