-- ==== Sys2Proof/Machine/Bundles.lean ====
section
/-! DEFINITION. The two bundles of state the block acts on, and the handlers' private state over any type (spec/10_state.md). -/

namespace Sys2Proof.Machine

/-- The CPU Core State: exactly the eight fields of R20. -/
structure CoreState where
  programCounter : Addr
  instructionLatch : Byte
  addressLatch : Addr
  dataLatch : Byte
  halfCycle : HalfCycle
  readInFlight : Bool
  writeInFlight : Bool
  topState : TopState
deriving DecidableEq, Repr, Inhabited

/-- The Pin Set: exactly the six fields of R30. A control pin holds its electrical level: true is high, which is inactive, and false is
low, which is asserted (R10). Bit 15 of `address` is A15 (R31, R73). -/
structure PinSet where
  address : Addr
  data : Byte
  readStrobe : Bool
  writeStrobe : Bool
  chipSelect : Bool
  phase : Bool
deriving DecidableEq, Repr, Inhabited

/-- The open type HandlerState (R7, R28), over the type `H` of what the external handlers keep. DESIGN CHOICE (notes/assumptions/5.md): the
count k of the unimplemented-opcode handler (R186) stands in a field of its own. -/
structure HandlerStateOver (H : Type) where
  unimplCount : Nat
  own : H
deriving DecidableEq, Repr, Inhabited

/-- A handler of R182 over any type of private state: from all it may read (R183 (a), (d)), what one invocation does. -/
abbrev HandlerOver (H : Type) := CoreState → PinSet → HandlerStateOver H → HandlerReplyOver H

end Sys2Proof.Machine
end

