-- ==== Sys2Proof/Config.lean ====
section
/-! DEFINITION. The parameters of the block (R7 of spec/00_scope.md). What the spec fixes is a definition; what it leaves OPEN is an
uninterpreted constant, so that no proof can see its value and a claim holds for every value. -/

namespace Sys2Proof

open Sys2Proof.Machine

/-! ## HandlerState, OPEN (R7, R28; notes/assumptions/7.md)

The type of what the external handlers keep is a parameter of the machine: it is fixed by two constants without a body, so no proof can tell which
type it is, and a claim holds for every one. -/

/-- A type of plain data, as the codes of its values in bytes: one code that is a value, since the type has a value at power-on, and every code
that `legal` allows. Every countable type, so every type of plain data, is one of these up to the names of its values (exists_handlerTypeOf in
Laws/State.lean). -/
structure HandlerTypeOf (start : List Byte) (legal : List Byte → Bool) where
  code : List Byte
  isValue : code = start ∨ legal code = true
deriving DecidableEq, Repr

/-- HandlerState, OPEN: the code of the handlers' value at power-on, which the enclosing system provides (R28, R232). -/
opaque Config.handlerStart : List Byte

/-- HandlerState, OPEN: which codes are values of the handlers' type (R7, R28). -/
opaque Config.handlerCode : List Byte → Bool

/-- HandlerState, OPEN: the type of what the external handlers keep (R7, R28). -/
abbrev PrivateState : Type := HandlerTypeOf Config.handlerStart Config.handlerCode

/-- What the handlers hold at power-on: the enclosing system's value (R28, R232). -/
def Config.handlersAtPowerOn : PrivateState := ⟨Config.handlerStart, .inl rfl⟩

/-- An effect of the handlers of this machine. -/
abbrev HandlerAction := HandlerActionOver PrivateState

/-- An answer of the handlers of this machine. -/
abbrev HandlerReply := HandlerReplyOver PrivateState

/-- The handlers' private state, of the open type (R28). -/
abbrev Machine.HandlerState := HandlerStateOver PrivateState

end Sys2Proof

namespace Sys2Proof.Config

open Sys2Proof.Machine

/-! ## The other parameters -/

/-- REGION_8000_CLASS: the bus class of 0x8000 to 0x9FFF. The spec fixes HRAM_IO (R7, R53, decision D3; notes/assumptions/3.md). -/
def region8000Class : Region := .hramIo

/-- UNIMPL_MORE: how many MORE_CYCLES replies the unimplemented-opcode handler gives first. The spec fixes 0 (R7, R186, decision D20;
notes/assumptions/5.md). -/
def unimplMore : Nat := 0

/-- HRAM_WRITE_HC3, OPEN: what write row 3 does in the HRAM_IO class (R7, R124; notes/assumptions/4.md). -/
opaque hramWriteHc3 : HramWriteHc3

/-- UNIMPL, OPEN: whether an opcode's handler is the unimplemented-opcode handler (R7, R186; notes/assumptions/5.md). -/
opaque unimpl : Byte → Bool

/-- DISPATCH, OPEN: what the external handler of an opcode does in one invocation, given all it may read (R7, R182, R183 (a), R187;
notes/assumptions/6.md, 8.md). -/
opaque dispatch : Byte → HandlerOver PrivateState

/-- RESET_ADDR_LOW: the n-th draw of the low 15 address pins (R7, R40; a free value, notes/assumptions/2.md). -/
opaque resetAddrLow : Nat → BitVec 15

/-- RESET_DATA: the n-th draw of the data pins (R7, R40; a free value, notes/assumptions/2.md). -/
opaque resetData : Nat → Byte

end Sys2Proof.Config
end

