-- ==== Sys2Proof/Machine/State.lean ====
section
/-! DEFINITION. The state of the machine, the reasons a step can stop, the state after reset, and one update function per field. -/

namespace Sys2Proof.Machine

/-- The fault record (R29, R201): the code, the command that raised it and the half-cycle at that point. -/
structure FaultRecord where
  code : FaultCode
  command : BusCommand
  halfCycle : HalfCycle
deriving DecidableEq, Repr

/-- Everything the spec gives the machine, and five fields of the model's own.
The spec's: `core` (R20), `pins` (R30), `handlerState` (R28), `faultRecord` (R29).
The model's own: `handlerReply`, the Status the last handler invocation returned (R182; notes/assumptions/11.md); `stepResult`, the Bool the
last STEP_READ or STEP_WRITE command returned (R112, R113; notes/assumptions/12.md); `handlerReplies`, what the external handlers answer at
the coming invocations, oldest first (R187; notes/assumptions/6.md); `commands`, what the agents outside the block issue next, oldest
first (R74, R212; notes/assumptions/9.md); `draws`, the counter of the free values a RESET command reads (R40; notes/assumptions/2.md). -/
structure State where
  core : CoreState
  pins : PinSet
  handlerState : HandlerState
  faultRecord : Option FaultRecord
  handlerReply : Option Status
  stepResult : Option Bool
  handlerReplies : List HandlerReply
  commands : List Command
  draws : Nat
deriving DecidableEq, Repr

/-- The model faults of R201. Each carries the state the fault leaves: the effects made before it remain, the rest of the tick is not
run, and the fault record holds the code (R202). -/
inductive Fault where
  /-- BEGIN_BUSY: raised by begin_read or begin_write, from a command, a handler or FetchStep, while a transaction is in flight
  (R110, R111, R168). Safe: the machine stops where the source leaves the behaviour undefined. -/
  | beginBusy (left : State)
  /-- STEP_IDLE: raised by step_read or step_write, from a command or a handler, while no transaction of its direction is in flight
  (R112, R113). Safe: the machine stops where the source leaves the behaviour undefined. -/
  | stepIdle (left : State)
deriving DecidableEq, Repr

/-- Why the machine has no step. -/
inductive Refusal where
  /-- An instruction this model gives no meaning. No arm of exec answers it now. Safe: nothing is claimed. -/
  | notModelled (mnemonic : String)
  /-- Raised by every command once the fault record holds a code: the model takes no further step, RESET included (R202, R29). Safe. -/
  | afterFault
  /-- Raised by HARNESS_SET outside TEST: it is not a command of the block there (R164, R205 (b)). Safe. -/
  | harnessOutsideTest
  /-- Raised by HARNESS_SET of half_cycle, phase, an in-flight flag or top_state: the harness may not write them (R164). Safe. -/
  | harnessFieldForbidden
deriving DecidableEq, Repr

/-- The state a fault leaves (R202). -/
def Fault.left : Fault → State
  | .beginBusy s => s
  | .stepIdle s => s

/-- The code of a fault (R201). -/
def Fault.code : Fault → FaultCode
  | .beginBusy _ => .beginBusy
  | .stepIdle _ => .stepIdle

/-- The machine right after power-on reset (R40, R230, R232). The low 15 address pins and the data pins, which the spec leaves at any
value, are zero by DESIGN CHOICE (notes/assumptions/1.md). The handlers' own state is whatever the enclosing system provides, a free value, and the
count of R186 is zero by DESIGN CHOICE (notes/assumptions/7.md). -/
def State.reset : State where
  core := {
    programCounter := 0x0000
    instructionLatch := 0x00
    addressLatch := 0x0000
    dataLatch := 0x00
    halfCycle := 0
    readInFlight := false
    writeInFlight := false
    topState := .fetch
  }
  pins := {
    address := 0x8000
    data := 0x00
    readStrobe := true
    writeStrobe := true
    chipSelect := true
    phase := true
  }
  handlerState := { unimplCount := 0, own := Config.handlersAtPowerOn }
  faultRecord := none
  handlerReply := none
  stepResult := none
  handlerReplies := []
  commands := []
  draws := 0

/-! One update per field. -/

def State.setProgramCounter (s : State) (v : Addr) : State := { s with core := { s.core with programCounter := v } }
def State.setInstructionLatch (s : State) (v : Byte) : State := { s with core := { s.core with instructionLatch := v } }
def State.setAddressLatch (s : State) (v : Addr) : State := { s with core := { s.core with addressLatch := v } }
def State.setDataLatch (s : State) (v : Byte) : State := { s with core := { s.core with dataLatch := v } }
def State.setHalfCycle (s : State) (v : HalfCycle) : State := { s with core := { s.core with halfCycle := v } }
def State.setReadInFlight (s : State) (v : Bool) : State := { s with core := { s.core with readInFlight := v } }
def State.setWriteInFlight (s : State) (v : Bool) : State := { s with core := { s.core with writeInFlight := v } }
def State.setTopState (s : State) (v : TopState) : State := { s with core := { s.core with topState := v } }
def State.setPins (s : State) (v : PinSet) : State := { s with pins := v }
def State.setHandlerState (s : State) (v : HandlerState) : State := { s with handlerState := v }
def State.setFaultRecord (s : State) (v : Option FaultRecord) : State := { s with faultRecord := v }
def State.setHandlerReply (s : State) (v : Option Status) : State := { s with handlerReply := v }
def State.setStepResult (s : State) (v : Option Bool) : State := { s with stepResult := v }
def State.setHandlerReplies (s : State) (v : List HandlerReply) : State := { s with handlerReplies := v }
def State.setCommands (s : State) (v : List Command) : State := { s with commands := v }
def State.setDraws (s : State) (v : Nat) : State := { s with draws := v }

end Sys2Proof.Machine
end

