-- ==== Sys2Proof/Machine/Flags.lean ====
section
/-! DEFINITION. The status the block computes. It has no condition flags (R38 of spec/10_state.md): its status bits are the two in-flight
flags, which the operations of Ops.lean write, and the phase, computed here. -/

namespace Sys2Proof.Machine

/-- R35, R101: phi is the complement of bit 2 of the half-cycle: high for 0 to 3, low for 4 to 7. -/
def phaseOf (h : HalfCycle) : Bool := !h.getLsbD 2

/-- A transaction of either direction is in flight (R26): what begin_read and begin_write test (R110, R111). -/
def CoreState.busy (c : CoreState) : Bool := c.readInFlight || c.writeInFlight

/-- The level of A15 (R31, R73). -/
def PinSet.a15 (p : PinSet) : Bool := p.address.getLsbD 15

end Sys2Proof.Machine
end

