-- ==== Sys2Proof/Machine/Operands.lean ====
section
/-! DEFINITION. The operands of the commands (R72, R74 of spec/30_encoding.md): an address, used whole and classified by region, a data byte,
used whole, and the field HARNESS_SET writes. -/

namespace Sys2Proof.Machine

/-- The class of an address by range alone (R52, R53). -/
def addressClass (a : Addr) : AddressClass :=
  if a.toNat ≤ 0x7FFF then .rom
  else if a.toNat ≤ 0x9FFF then .other
  else if a.toNat ≤ 0xFDFF then .ram
  else .hramIo

/-- The region of an address for a given REGION_8000_CLASS (R52). -/
def regionWith (class8000 : Region) (a : Addr) : Region :=
  match addressClass a with
  | .rom => .rom
  | .other => class8000
  | .ram => .ram
  | .hramIo => .hramIo

/-- The region of an address (R52), with REGION_8000_CLASS as the spec fixes it. -/
def region (a : Addr) : Region := regionWith Config.region8000Class a

/-- R122: keep bit 15 of the address pins and place the low 15 bits of the address latch on the others. -/
def placeLowAddress (pinAddress latch : Addr) : Addr := (pinAddress &&& 0x8000#16) ||| (latch &&& 0x7FFF#16)

end Sys2Proof.Machine

namespace Sys2Proof

open Sys2Proof.Machine

/-- The state with one allowed field written by the harness; none for a field it may not write (R164). -/
def HarnessWrite.apply (s : State) : HarnessWrite → Option State
  | .programCounter v => some (s.setProgramCounter v)
  | .instructionLatch v => some (s.setInstructionLatch v)
  | .addressLatch v => some (s.setAddressLatch v)
  | .dataLatch v => some (s.setDataLatch v)
  | .pinAddress v => some (s.setPins { s.pins with address := v })
  | .pinData v => some (s.setPins { s.pins with data := v })
  | .pinReadStrobe v => some (s.setPins { s.pins with readStrobe := v })
  | .pinWriteStrobe v => some (s.setPins { s.pins with writeStrobe := v })
  | .pinChipSelect v => some (s.setPins { s.pins with chipSelect := v })
  | .halfCycle _ | .phase _ | .readInFlight _ | .writeInFlight _ | .topState _ => none

/-- The row of the opcode table that a command of an outside agent is (R74). -/
def Command.toInstr : Command → Instr
  | .tick => .tick
  | .reset => .reset
  | .enterTest => .enterTest
  | .beginRead a => .beginRead a
  | .beginWrite a d => .beginWrite a d
  | .stepRead => .stepRead
  | .stepWrite => .stepWrite
  | .driveData d => .driveData d
  | .harnessSet w => .harnessSet w

end Sys2Proof
end

