-- ==== Sys2Proof/Machine/Ops.lean ====
section
/-! DEFINITION. The named operations: the half-cycle timing table, beginning and stepping a transaction, the clock divider, the opcode
fetch, a handler invocation, and the model fault. Every meaning stands over these. An operation that can raise a model fault answers
Except Fault. -/

namespace Sys2Proof.Machine

/-! ## The model fault -/

/-- R201, R202: the fault record takes the code, the command and the half-cycle, and everything done before stays as it is. -/
def recordFault (code : FaultCode) (command : BusCommand) (s : State) : State :=
  s.setFaultRecord (some { code := code, command := command, halfCycle := s.core.halfCycle })

/-- R201: BEGIN_BUSY, raised by a begin. -/
def raiseBeginBusy (command : BusCommand) (s : State) : Fault := .beginBusy (recordFault .beginBusy command s)

/-- R201: STEP_IDLE, raised by a step. -/
def raiseStepIdle (command : BusCommand) (s : State) : Fault := .stepIdle (recordFault .stepIdle command s)

/-- The outcome of an operation that can fault. -/
def complete : Except Fault State → Host.Outcome State Fault Refusal
  | .ok s => .next s
  | .error f => .fault f

/-- A command runs only while the fault record is none (R202, R29). -/
def ifLive (s : State) (o : Host.Outcome State Fault Refusal) : Host.Outcome State Fault Refusal :=
  match s.faultRecord with
  | none => o
  | some _ => .refused .afterFault

/-- A command whose operation can fault. -/
def guarded (s : State) (r : Except Fault State) : Host.Outcome State Fault Refusal := ifLive s (complete r)

/-! ## The half-cycle timing table (R120 to R127 of spec/41_bus_transactions.md) -/

/-- R121: row 0, read and write, every region. -/
def rowZero (p : PinSet) : PinSet :=
  { p with writeStrobe := true, readStrobe := false, address := p.address ||| 0x8000#16, chipSelect := true }

/-- R122: row 1. -/
def rowOne (dir : Direction) (r : Region) (latch : Addr) (p : PinSet) : PinSet :=
  match r with
  | .rom | .ram =>
    { p with
      readStrobe := (match dir with | .read => true | .write => p.readStrobe)
      address := placeLowAddress p.address latch }
  | .hramIo => p

/-- R123: row 2, read and write. -/
def rowTwo (r : Region) (p : PinSet) : PinSet :=
  match r with
  | .rom => { p with address := p.address &&& 0x7FFF#16 }
  | .ram => { p with chipSelect := false }
  | .hramIo => p

/-- R124: row 3 of a write in the HRAM_IO class, for each value of HRAM_WRITE_HC3. -/
def hramWriteRowThree (hc3 : HramWriteHc3) (d : Byte) (p : PinSet) : PinSet :=
  { p with
    writeStrobe := (match hc3 with | .full | .strobeOnly => false | .none => p.writeStrobe)
    data := (match hc3 with | .full => d | .strobeOnly | .none => p.data) }

/-- R124: row 3. -/
def rowThree (hc3 : HramWriteHc3) (dir : Direction) (r : Region) (d : Byte) (p : PinSet) : PinSet :=
  match dir, r with
  | .read, _ => p
  | .write, .rom | .write, .ram => { p with writeStrobe := false, data := d }
  | .write, .hramIo => hramWriteRowThree hc3 d p

/-- R126: what row 6 does to the pins: a write pulls WR back to inactive. -/
def rowSix (dir : Direction) (p : PinSet) : PinSet :=
  match dir with
  | .read => p
  | .write => { p with writeStrobe := true }

/-- R120: the pins after row h. Rows 4, 5 and 7 change no pin (R125, R127). -/
def rowPins (hc3 : HramWriteHc3) (dir : Direction) (r : Region) (h : HalfCycle) (latch : Addr) (d : Byte) (p : PinSet) : PinSet :=
  match h.toNat with
  | 0 => rowZero p
  | 1 => rowOne dir r latch p
  | 2 => rowTwo r p
  | 3 => rowThree hc3 dir r d p
  | 6 => rowSix dir p
  | _ => p

/-- R126: a read samples the data pins into the data latch at row 6, and at no other row. -/
def sampleAtRowSix (dir : Direction) (s : State) : Byte :=
  match dir with
  | .read => if s.core.halfCycle = 6#3 then s.pins.data else s.core.dataLatch
  | .write => s.core.dataLatch

/-- R120: perform the row of the current half-cycle for the transaction whose address is in the address latch. -/
def performRow (dir : Direction) (s : State) : State :=
  (s.setDataLatch (sampleAtRowSix dir s)).setPins
    (rowPins Config.hramWriteHc3 dir (region s.core.addressLatch) s.core.halfCycle s.core.addressLatch s.core.dataLatch s.pins)

/-- R112, R113, R127: row 7 completes the transaction. -/
def atRowSeven (s : State) : Bool := s.core.halfCycle == 7#3

/-! ## Beginning and stepping a transaction (R110 to R113) -/

/-- R110: begin_read(a). -/
def beginRead (a : Addr) (s : State) : Except Fault State :=
  if s.core.busy then .error (raiseBeginBusy .beginRead s)
  else .ok ((s.setAddressLatch a).setReadInFlight true)

/-- R111: begin_write(a, d). -/
def beginWrite (a : Addr) (d : Byte) (s : State) : Except Fault State :=
  if s.core.busy then .error (raiseBeginBusy .beginWrite s)
  else .ok (((s.setAddressLatch a).setDataLatch d).setWriteInFlight true)

/-- R112: step_read(). The Bool is its result, false at row 7. -/
def stepRead (s : State) : Except Fault (State × Bool) :=
  if s.core.readInFlight then
    if atRowSeven s then .ok ((performRow .read s).setReadInFlight false, false)
    else .ok (performRow .read s, true)
  else .error (raiseStepIdle .stepRead s)

/-- R113: step_write(). The Bool is its result, false at row 7. -/
def stepWrite (s : State) : Except Fault (State × Bool) :=
  if s.core.writeInFlight then
    if atRowSeven s then .ok ((performRow .write s).setWriteInFlight false, false)
    else .ok (performRow .write s, true)
  else .error (raiseStepIdle .stepWrite s)

/-! ## The clock divider -/

/-- R100: advance(). The phase is computed from the new half-cycle. -/
def advance (s : State) : State :=
  let h := s.core.halfCycle + 1#3
  (s.setHalfCycle h).setPins { s.pins with phase := phaseOf h }

/-! ## The opcode fetch -/

/-- R153: fetch issue. With no read in flight, begin a read at the program counter, then increment it modulo 2^16. -/
def fetchIssue (s : State) : Except Fault State :=
  if s.core.readInFlight then .ok s
  else
    match beginRead s.core.programCounter s with
    | .error f => .error f
    | .ok t => .ok (t.setProgramCounter (t.core.programCounter + 1#16))

/-- R154, R159: a completed fetch loads the instruction latch from the data latch; in FETCH it also enters EXECUTE. -/
def fetchDone (s : State) : State :=
  let t := s.setInstructionLatch s.core.dataLatch
  match s.core.topState with
  | .fetch => t.setTopState .execute
  | .execute | .test => t

/-- R152: FetchStep. -/
def fetchStep (s : State) : Except Fault State :=
  match fetchIssue s with
  | .error f => .error f
  | .ok t =>
    match stepRead t with
    | .error f => .error f
    | .ok (u, true) => .ok u
    | .ok (u, false) => .ok (fetchDone u)

/-! ## A handler invocation (R182 to R187 of spec/43_dispatch.md) -/

/-- R183 (b), (c), (d): one effect of a handler. The result of a step is what the handler sees; the state holds all it depends on. -/
def runAction (a : HandlerAction) (s : State) : Except Fault State :=
  match a with
  | .beginRead a => beginRead a s
  | .beginWrite a d => beginWrite a d s
  | .stepRead => (stepRead s).map Prod.fst
  | .stepWrite => (stepWrite s).map Prod.fst
  | .setProgramCounter v => .ok (s.setProgramCounter v)
  | .setOwn v => .ok (s.setHandlerState { s.handlerState with own := v })

/-- R182: the finite sequence of effects of one invocation, in order; a fault ends it (R202). -/
def runActions : List HandlerAction → State → Except Fault State
  | [], s => .ok s
  | a :: rest, s =>
    match runAction a s with
    | .error f => .error f
    | .ok t => runActions rest t

/-- R187: what the external handler of `op` does now. An answer listed in State stands first and is used up; with none listed, the
open parameter DISPATCH answers (notes/assumptions/6.md). -/
def dispatchReply (op : Byte) (s : State) : HandlerReply × State :=
  match s.handlerReplies with
  | r :: rest => (r, s.setHandlerReplies rest)
  | [] => (Config.dispatch op s.core s.pins s.handlerState, s)

/-- R182, R187: one invocation of the external handler of `op`. -/
def invokeDispatch (op : Byte) (s : State) : Except Fault State :=
  match runActions (dispatchReply op s).1.actions (dispatchReply op s).2 with
  | .error f => .error f
  | .ok t => .ok (t.setHandlerReply (some (dispatchReply op s).1.status))

/-- R186: the reply of the unimplemented-opcode handler on the k-th invocation of an instruction instance. -/
def unimplStatus (more k : Nat) : Status := if k ≤ more then .moreCycles else .finalCycle

/-- R186: the count kept for the next invocation. An instance ends in the tick in which the next fetch completes, which is the tick with
FINAL_CYCLE at half-cycle 7; the next instance counts from 1 again. -/
def unimplNextCount (more k : Nat) (h : HalfCycle) : Nat :=
  match unimplStatus more k with
  | .finalCycle => if h = 7#3 then 0 else k
  | .moreCycles => k

/-- R186: one invocation of the unimplemented-opcode handler, for a given UNIMPL_MORE. It has no effect but its count and its reply. -/
def invokeUnimplemented (more : Nat) (s : State) : State :=
  let k := s.handlerState.unimplCount + 1
  (s.setHandlerState { s.handlerState with unimplCount := unimplNextCount more k s.core.halfCycle }).setHandlerReply
    (some (unimplStatus more k))

/-- R186, R187: one invocation of the handler of an opcode 0x01 to 0xFF. -/
def invokeOpcode (op : Byte) (s : State) : Except Fault State :=
  if Config.unimpl op then .ok (invokeUnimplemented Config.unimplMore s) else invokeDispatch op s

/-! ## Handlers over a type coded in the open type HandlerState (R7, R28) -/

section AnyPrivateState
variable {H K : Type}

/-- The same effect with the private state written in another type. -/
def mapAction (enc : H → K) : HandlerActionOver H → HandlerActionOver K
  | .beginRead a => .beginRead a
  | .beginWrite a d => .beginWrite a d
  | .stepRead => .stepRead
  | .stepWrite => .stepWrite
  | .setProgramCounter v => .setProgramCounter v
  | .setOwn v => .setOwn (enc v)

/-- The same answer with the private state written in another type. -/
def mapReply (enc : H → K) (r : HandlerReplyOver H) : HandlerReplyOver K :=
  { actions := r.actions.map (mapAction enc), status := r.status }

/-- The same HandlerState with the handlers' own part written in another type. -/
def mapHandlerState (enc : H → K) (hs : HandlerStateOver H) : HandlerStateOver K :=
  { unimplCount := hs.unimplCount, own := enc hs.own }

/-- A handler over `H` as a handler of this machine, which keeps its state in the code `enc`, read back by `dec`. A handler over the open type itself
needs no code: it is a handler of this machine as it stands. -/
def carryHandler (enc : H → PrivateState) (dec : PrivateState → H) (f : HandlerOver H) : HandlerOver PrivateState :=
  fun c p hs => mapReply enc (f c p (mapHandlerState dec hs))

/-- The effects of an answer on the block: all but its writes of private state (R183 (b), (c)). -/
def blockActions : List (HandlerActionOver H) → List HandlerAction
  | [] => []
  | .beginRead a :: rest => .beginRead a :: blockActions rest
  | .beginWrite a d :: rest => .beginWrite a d :: blockActions rest
  | .stepRead :: rest => .stepRead :: blockActions rest
  | .stepWrite :: rest => .stepWrite :: blockActions rest
  | .setProgramCounter v :: rest => .setProgramCounter v :: blockActions rest
  | .setOwn _ :: rest => blockActions rest

/-- The private state after an answer's effects (R183 (d)): the last value written, or `h` if none is. -/
def ownAfter (h : H) : List (HandlerActionOver H) → H
  | [] => h
  | .setOwn v :: rest => ownAfter v rest
  | .beginRead _ :: rest | .beginWrite _ _ :: rest | .stepRead :: rest | .stepWrite :: rest | .setProgramCounter _ :: rest =>
    ownAfter h rest

end AnyPrivateState

/-! ## A tick after its handler (R156, R158, R162) -/

/-- R156, R158: on FINAL_CYCLE the tick runs FetchStep; on MORE_CYCLES it runs none. -/
def fetchAfterHandler (s : State) : Except Fault State :=
  match s.handlerReply with
  | some .finalCycle => fetchStep s
  | some .moreCycles | none => .ok s

/-- R150, R102: a tick ends with advance(), unless a fault ended it before (R202). -/
def endTick (r : Except Fault State) : Except Fault State := r.map advance

/-- R150, R162: the rest of an EXECUTE tick, after the handler invocation whose outcome is given. -/
def finishExecuteTick : Host.Outcome State Fault Refusal → Host.Outcome State Fault Refusal
  | .next t => complete (endTick (fetchAfterHandler t))
  | .fault f => .fault f
  | .refused r => .refused r

/-! ## The agents outside the block -/

/-- The command the outside agents issue next, and the state without it. With none listed it is a tick: the block advances one tick at a
time under the enclosing system (R62, R212; notes/assumptions/9.md). -/
def nextCommand (s : State) : Command × State :=
  match s.commands with
  | [] => (.tick, s)
  | c :: rest => (c, s.setCommands rest)

/-- R164: the harness writes one field, in TEST only. Outside TEST this is not a command of the block (R205 (b)), and five fields it may not
write. -/
def harnessSet (w : HarnessWrite) (s : State) : Host.Outcome State Fault Refusal :=
  match s.core.topState with
  | .fetch | .execute => .refused .harnessOutsideTest
  | .test =>
    match w.apply s with
    | some t => .next t
    | none => .refused .harnessFieldForbidden

/-- The bytes of the latched instruction: the opcode byte (R22, R70). -/
def latchedBytes (s : State) : List Byte := [s.core.instructionLatch]

/-- The state in which an opcode is latched and a tick is the next command: as a fetch that has just completed leaves the instruction
latch and the mode (R154; notes/assumptions/15.md). -/
def placeOpcode (op : Byte) (s : State) : State :=
  ((s.setInstructionLatch op).setTopState .execute).setCommands (.tick :: s.commands)

/-- R235: the launch state START pc=v, the reset state with the program counter at v. -/
def launch (v : Addr) : State := State.reset.setProgramCounter v

/-- R230: the state the RESET command leaves; the low address pins and the data pins take the next draw, any value (R40). -/
def resetState (s : State) : State :=
  let cleared := s.setPins {
    address := 0x8000#16 ||| (Config.resetAddrLow s.draws).setWidth 16
    data := Config.resetData s.draws
    readStrobe := true
    writeStrobe := true
    chipSelect := true
    phase := true }
  (((((((((cleared.setProgramCounter 0x0000).setInstructionLatch 0x00).setAddressLatch 0x0000).setDataLatch 0x00).setHalfCycle
    0#3).setReadInFlight false).setWriteInFlight false).setTopState .fetch).setDraws (s.draws + 1))

end Sys2Proof.Machine
end

