-- ==== Sys2Proof/Machine/Bus.lean ====
section
/-! DEFINITION. The rows of the bus transaction protocol (spec/41_bus_transactions.md) and of the environment's drive of the data pins (R61
of spec/20_memory.md). The begins and steps act the same in every mode (R134, R209). -/

namespace Sys2Proof.Machine

/-- A step command leaves its Bool where a claim can read it (R74; notes/assumptions/12.md). -/
def keepStepResult (r : Except Fault (State × Bool)) : Except Fault State :=
  r.map fun p => p.1.setStepResult (some p.2)

/-- BEGIN_READ (R110). -/
def execBeginRead (a : Addr) (s : State) : Host.Outcome State Fault Refusal := guarded s (beginRead a s)

/-- BEGIN_WRITE (R111). -/
def execBeginWrite (a : Addr) (d : Byte) (s : State) : Host.Outcome State Fault Refusal := guarded s (beginWrite a d s)

/-- STEP_READ (R112). -/
def execStepRead (s : State) : Host.Outcome State Fault Refusal := guarded s (keepStepResult (stepRead s))

/-- STEP_WRITE (R113). -/
def execStepWrite (s : State) : Host.Outcome State Fault Refusal := guarded s (keepStepResult (stepWrite s))

/-- DRIVE_DATA (R61 (b)): the environment writes the data pins, and nothing else. -/
def execDriveData (d : Byte) (s : State) : Host.Outcome State Fault Refusal :=
  guarded s (.ok (s.setPins { s.pins with data := d }))

end Sys2Proof.Machine
end

