-- ==== Sys2Proof/Machine/Clock.lean ====
section
/-! DEFINITION. The clock divider's row (spec/40_clock_divider.md). -/

namespace Sys2Proof.Machine

/-- ADVANCE (R100). Within a run only the end of a tick performs it (R102; notes/assumptions/14.md). -/
def execAdvance (s : State) : Host.Outcome State Fault Refusal := guarded s (.ok (advance s))

end Sys2Proof.Machine
end

