-- ==== Sys2Proof/Machine/Handlers.lean ====
section
/-! DEFINITION. The meanings of the 256 opcode rows: one invocation of the handler the dispatch table holds for the byte (R181 to R188 of
spec/43_dispatch.md). Each row has a definition of its own; OP_01 to OP_FF stand over the shared operation invokeOpcode, because the spec gives
every one of them the same rule: R186 for an opcode in UNIMPL, R187 otherwise. -/

namespace Sys2Proof.Machine

/-- R185: NOP answers FINAL_CYCLE on every invocation; no other effect. -/
def execNop (s : State) : Host.Outcome State Fault Refusal :=
  guarded s (.ok (s.setHandlerReply (some .finalCycle)))

/-- OP_01 (R187, R186): the handler of 0x01. -/
def execOp01 (s : State) : Host.Outcome State Fault Refusal := guarded s (invokeOpcode 0x01#8 s)
/-- OP_02 (R187, R186): the handler of 0x02. -/
def execOp02 (s : State) : Host.Outcome State Fault Refusal := guarded s (invokeOpcode 0x02#8 s)
/-- OP_03 (R187, R186): the handler of 0x03. -/
def execOp03 (s : State) : Host.Outcome State Fault Refusal := guarded s (invokeOpcode 0x03#8 s)
/-- OP_04 (R187, R186): the handler of 0x04. -/
def execOp04 (s : State) : Host.Outcome State Fault Refusal := guarded s (invokeOpcode 0x04#8 s)
/-- OP_05 (R187, R186): the handler of 0x05. -/
def execOp05 (s : State) : Host.Outcome State Fault Refusal := guarded s (invokeOpcode 0x05#8 s)
/-- OP_06 (R187, R186): the handler of 0x06. -/
def execOp06 (s : State) : Host.Outcome State Fault Refusal := guarded s (invokeOpcode 0x06#8 s)
/-- OP_07 (R187, R186): the handler of 0x07. -/
def execOp07 (s : State) : Host.Outcome State Fault Refusal := guarded s (invokeOpcode 0x07#8 s)
/-- OP_08 (R187, R186): the handler of 0x08. -/
def execOp08 (s : State) : Host.Outcome State Fault Refusal := guarded s (invokeOpcode 0x08#8 s)
/-- OP_09 (R187, R186): the handler of 0x09. -/
def execOp09 (s : State) : Host.Outcome State Fault Refusal := guarded s (invokeOpcode 0x09#8 s)
/-- OP_0A (R187, R186): the handler of 0x0A. -/
def execOp0A (s : State) : Host.Outcome State Fault Refusal := guarded s (invokeOpcode 0x0A#8 s)
/-- OP_0B (R187, R186): the handler of 0x0B. -/
def execOp0B (s : State) : Host.Outcome State Fault Refusal := guarded s (invokeOpcode 0x0B#8 s)
/-- OP_0C (R187, R186): the handler of 0x0C. -/
def execOp0C (s : State) : Host.Outcome State Fault Refusal := guarded s (invokeOpcode 0x0C#8 s)
/-- OP_0D (R187, R186): the handler of 0x0D. -/
def execOp0D (s : State) : Host.Outcome State Fault Refusal := guarded s (invokeOpcode 0x0D#8 s)
/-- OP_0E (R187, R186): the handler of 0x0E. -/
def execOp0E (s : State) : Host.Outcome State Fault Refusal := guarded s (invokeOpcode 0x0E#8 s)
/-- OP_0F (R187, R186): the handler of 0x0F. -/
def execOp0F (s : State) : Host.Outcome State Fault Refusal := guarded s (invokeOpcode 0x0F#8 s)
/-- OP_10 (R187, R186): the handler of 0x10. -/
def execOp10 (s : State) : Host.Outcome State Fault Refusal := guarded s (invokeOpcode 0x10#8 s)
/-- OP_11 (R187, R186): the handler of 0x11. -/
def execOp11 (s : State) : Host.Outcome State Fault Refusal := guarded s (invokeOpcode 0x11#8 s)
/-- OP_12 (R187, R186): the handler of 0x12. -/
def execOp12 (s : State) : Host.Outcome State Fault Refusal := guarded s (invokeOpcode 0x12#8 s)
/-- OP_13 (R187, R186): the handler of 0x13. -/
def execOp13 (s : State) : Host.Outcome State Fault Refusal := guarded s (invokeOpcode 0x13#8 s)
/-- OP_14 (R187, R186): the handler of 0x14. -/
def execOp14 (s : State) : Host.Outcome State Fault Refusal := guarded s (invokeOpcode 0x14#8 s)
/-- OP_15 (R187, R186): the handler of 0x15. -/
def execOp15 (s : State) : Host.Outcome State Fault Refusal := guarded s (invokeOpcode 0x15#8 s)
/-- OP_16 (R187, R186): the handler of 0x16. -/
def execOp16 (s : State) : Host.Outcome State Fault Refusal := guarded s (invokeOpcode 0x16#8 s)
/-- OP_17 (R187, R186): the handler of 0x17. -/
def execOp17 (s : State) : Host.Outcome State Fault Refusal := guarded s (invokeOpcode 0x17#8 s)
/-- OP_18 (R187, R186): the handler of 0x18. -/
def execOp18 (s : State) : Host.Outcome State Fault Refusal := guarded s (invokeOpcode 0x18#8 s)
/-- OP_19 (R187, R186): the handler of 0x19. -/
def execOp19 (s : State) : Host.Outcome State Fault Refusal := guarded s (invokeOpcode 0x19#8 s)
/-- OP_1A (R187, R186): the handler of 0x1A. -/
def execOp1A (s : State) : Host.Outcome State Fault Refusal := guarded s (invokeOpcode 0x1A#8 s)
/-- OP_1B (R187, R186): the handler of 0x1B. -/
def execOp1B (s : State) : Host.Outcome State Fault Refusal := guarded s (invokeOpcode 0x1B#8 s)
/-- OP_1C (R187, R186): the handler of 0x1C. -/
def execOp1C (s : State) : Host.Outcome State Fault Refusal := guarded s (invokeOpcode 0x1C#8 s)
/-- OP_1D (R187, R186): the handler of 0x1D. -/
def execOp1D (s : State) : Host.Outcome State Fault Refusal := guarded s (invokeOpcode 0x1D#8 s)
/-- OP_1E (R187, R186): the handler of 0x1E. -/
def execOp1E (s : State) : Host.Outcome State Fault Refusal := guarded s (invokeOpcode 0x1E#8 s)
/-- OP_1F (R187, R186): the handler of 0x1F. -/
def execOp1F (s : State) : Host.Outcome State Fault Refusal := guarded s (invokeOpcode 0x1F#8 s)
/-- OP_20 (R187, R186): the handler of 0x20. -/
def execOp20 (s : State) : Host.Outcome State Fault Refusal := guarded s (invokeOpcode 0x20#8 s)
/-- OP_21 (R187, R186): the handler of 0x21. -/
def execOp21 (s : State) : Host.Outcome State Fault Refusal := guarded s (invokeOpcode 0x21#8 s)
/-- OP_22 (R187, R186): the handler of 0x22. -/
def execOp22 (s : State) : Host.Outcome State Fault Refusal := guarded s (invokeOpcode 0x22#8 s)
/-- OP_23 (R187, R186): the handler of 0x23. -/
def execOp23 (s : State) : Host.Outcome State Fault Refusal := guarded s (invokeOpcode 0x23#8 s)
/-- OP_24 (R187, R186): the handler of 0x24. -/
def execOp24 (s : State) : Host.Outcome State Fault Refusal := guarded s (invokeOpcode 0x24#8 s)
/-- OP_25 (R187, R186): the handler of 0x25. -/
def execOp25 (s : State) : Host.Outcome State Fault Refusal := guarded s (invokeOpcode 0x25#8 s)
/-- OP_26 (R187, R186): the handler of 0x26. -/
def execOp26 (s : State) : Host.Outcome State Fault Refusal := guarded s (invokeOpcode 0x26#8 s)
/-- OP_27 (R187, R186): the handler of 0x27. -/
def execOp27 (s : State) : Host.Outcome State Fault Refusal := guarded s (invokeOpcode 0x27#8 s)
/-- OP_28 (R187, R186): the handler of 0x28. -/
def execOp28 (s : State) : Host.Outcome State Fault Refusal := guarded s (invokeOpcode 0x28#8 s)
/-- OP_29 (R187, R186): the handler of 0x29. -/
def execOp29 (s : State) : Host.Outcome State Fault Refusal := guarded s (invokeOpcode 0x29#8 s)
/-- OP_2A (R187, R186): the handler of 0x2A. -/
def execOp2A (s : State) : Host.Outcome State Fault Refusal := guarded s (invokeOpcode 0x2A#8 s)
/-- OP_2B (R187, R186): the handler of 0x2B. -/
def execOp2B (s : State) : Host.Outcome State Fault Refusal := guarded s (invokeOpcode 0x2B#8 s)
/-- OP_2C (R187, R186): the handler of 0x2C. -/
def execOp2C (s : State) : Host.Outcome State Fault Refusal := guarded s (invokeOpcode 0x2C#8 s)
/-- OP_2D (R187, R186): the handler of 0x2D. -/
def execOp2D (s : State) : Host.Outcome State Fault Refusal := guarded s (invokeOpcode 0x2D#8 s)
/-- OP_2E (R187, R186): the handler of 0x2E. -/
def execOp2E (s : State) : Host.Outcome State Fault Refusal := guarded s (invokeOpcode 0x2E#8 s)
/-- OP_2F (R187, R186): the handler of 0x2F. -/
def execOp2F (s : State) : Host.Outcome State Fault Refusal := guarded s (invokeOpcode 0x2F#8 s)
/-- OP_30 (R187, R186): the handler of 0x30. -/
def execOp30 (s : State) : Host.Outcome State Fault Refusal := guarded s (invokeOpcode 0x30#8 s)
/-- OP_31 (R187, R186): the handler of 0x31. -/
def execOp31 (s : State) : Host.Outcome State Fault Refusal := guarded s (invokeOpcode 0x31#8 s)
/-- OP_32 (R187, R186): the handler of 0x32. -/
def execOp32 (s : State) : Host.Outcome State Fault Refusal := guarded s (invokeOpcode 0x32#8 s)
/-- OP_33 (R187, R186): the handler of 0x33. -/
def execOp33 (s : State) : Host.Outcome State Fault Refusal := guarded s (invokeOpcode 0x33#8 s)
/-- OP_34 (R187, R186): the handler of 0x34. -/
def execOp34 (s : State) : Host.Outcome State Fault Refusal := guarded s (invokeOpcode 0x34#8 s)
/-- OP_35 (R187, R186): the handler of 0x35. -/
def execOp35 (s : State) : Host.Outcome State Fault Refusal := guarded s (invokeOpcode 0x35#8 s)
/-- OP_36 (R187, R186): the handler of 0x36. -/
def execOp36 (s : State) : Host.Outcome State Fault Refusal := guarded s (invokeOpcode 0x36#8 s)
/-- OP_37 (R187, R186): the handler of 0x37. -/
def execOp37 (s : State) : Host.Outcome State Fault Refusal := guarded s (invokeOpcode 0x37#8 s)
/-- OP_38 (R187, R186): the handler of 0x38. -/
def execOp38 (s : State) : Host.Outcome State Fault Refusal := guarded s (invokeOpcode 0x38#8 s)
/-- OP_39 (R187, R186): the handler of 0x39. -/
def execOp39 (s : State) : Host.Outcome State Fault Refusal := guarded s (invokeOpcode 0x39#8 s)
/-- OP_3A (R187, R186): the handler of 0x3A. -/
def execOp3A (s : State) : Host.Outcome State Fault Refusal := guarded s (invokeOpcode 0x3A#8 s)
/-- OP_3B (R187, R186): the handler of 0x3B. -/
def execOp3B (s : State) : Host.Outcome State Fault Refusal := guarded s (invokeOpcode 0x3B#8 s)
/-- OP_3C (R187, R186): the handler of 0x3C. -/
def execOp3C (s : State) : Host.Outcome State Fault Refusal := guarded s (invokeOpcode 0x3C#8 s)
/-- OP_3D (R187, R186): the handler of 0x3D. -/
def execOp3D (s : State) : Host.Outcome State Fault Refusal := guarded s (invokeOpcode 0x3D#8 s)
/-- OP_3E (R187, R186): the handler of 0x3E. -/
def execOp3E (s : State) : Host.Outcome State Fault Refusal := guarded s (invokeOpcode 0x3E#8 s)
/-- OP_3F (R187, R186): the handler of 0x3F. -/
def execOp3F (s : State) : Host.Outcome State Fault Refusal := guarded s (invokeOpcode 0x3F#8 s)
/-- OP_40 (R187, R186): the handler of 0x40. -/
def execOp40 (s : State) : Host.Outcome State Fault Refusal := guarded s (invokeOpcode 0x40#8 s)
/-- OP_41 (R187, R186): the handler of 0x41. -/
def execOp41 (s : State) : Host.Outcome State Fault Refusal := guarded s (invokeOpcode 0x41#8 s)
/-- OP_42 (R187, R186): the handler of 0x42. -/
def execOp42 (s : State) : Host.Outcome State Fault Refusal := guarded s (invokeOpcode 0x42#8 s)
/-- OP_43 (R187, R186): the handler of 0x43. -/
def execOp43 (s : State) : Host.Outcome State Fault Refusal := guarded s (invokeOpcode 0x43#8 s)
/-- OP_44 (R187, R186): the handler of 0x44. -/
def execOp44 (s : State) : Host.Outcome State Fault Refusal := guarded s (invokeOpcode 0x44#8 s)
/-- OP_45 (R187, R186): the handler of 0x45. -/
def execOp45 (s : State) : Host.Outcome State Fault Refusal := guarded s (invokeOpcode 0x45#8 s)
/-- OP_46 (R187, R186): the handler of 0x46. -/
def execOp46 (s : State) : Host.Outcome State Fault Refusal := guarded s (invokeOpcode 0x46#8 s)
/-- OP_47 (R187, R186): the handler of 0x47. -/
def execOp47 (s : State) : Host.Outcome State Fault Refusal := guarded s (invokeOpcode 0x47#8 s)
/-- OP_48 (R187, R186): the handler of 0x48. -/
def execOp48 (s : State) : Host.Outcome State Fault Refusal := guarded s (invokeOpcode 0x48#8 s)
/-- OP_49 (R187, R186): the handler of 0x49. -/
def execOp49 (s : State) : Host.Outcome State Fault Refusal := guarded s (invokeOpcode 0x49#8 s)
/-- OP_4A (R187, R186): the handler of 0x4A. -/
def execOp4A (s : State) : Host.Outcome State Fault Refusal := guarded s (invokeOpcode 0x4A#8 s)
/-- OP_4B (R187, R186): the handler of 0x4B. -/
def execOp4B (s : State) : Host.Outcome State Fault Refusal := guarded s (invokeOpcode 0x4B#8 s)
/-- OP_4C (R187, R186): the handler of 0x4C. -/
def execOp4C (s : State) : Host.Outcome State Fault Refusal := guarded s (invokeOpcode 0x4C#8 s)
/-- OP_4D (R187, R186): the handler of 0x4D. -/
def execOp4D (s : State) : Host.Outcome State Fault Refusal := guarded s (invokeOpcode 0x4D#8 s)
/-- OP_4E (R187, R186): the handler of 0x4E. -/
def execOp4E (s : State) : Host.Outcome State Fault Refusal := guarded s (invokeOpcode 0x4E#8 s)
/-- OP_4F (R187, R186): the handler of 0x4F. -/
def execOp4F (s : State) : Host.Outcome State Fault Refusal := guarded s (invokeOpcode 0x4F#8 s)
/-- OP_50 (R187, R186): the handler of 0x50. -/
def execOp50 (s : State) : Host.Outcome State Fault Refusal := guarded s (invokeOpcode 0x50#8 s)
/-- OP_51 (R187, R186): the handler of 0x51. -/
def execOp51 (s : State) : Host.Outcome State Fault Refusal := guarded s (invokeOpcode 0x51#8 s)
/-- OP_52 (R187, R186): the handler of 0x52. -/
def execOp52 (s : State) : Host.Outcome State Fault Refusal := guarded s (invokeOpcode 0x52#8 s)
/-- OP_53 (R187, R186): the handler of 0x53. -/
def execOp53 (s : State) : Host.Outcome State Fault Refusal := guarded s (invokeOpcode 0x53#8 s)
/-- OP_54 (R187, R186): the handler of 0x54. -/
def execOp54 (s : State) : Host.Outcome State Fault Refusal := guarded s (invokeOpcode 0x54#8 s)
/-- OP_55 (R187, R186): the handler of 0x55. -/
def execOp55 (s : State) : Host.Outcome State Fault Refusal := guarded s (invokeOpcode 0x55#8 s)
/-- OP_56 (R187, R186): the handler of 0x56. -/
def execOp56 (s : State) : Host.Outcome State Fault Refusal := guarded s (invokeOpcode 0x56#8 s)
/-- OP_57 (R187, R186): the handler of 0x57. -/
def execOp57 (s : State) : Host.Outcome State Fault Refusal := guarded s (invokeOpcode 0x57#8 s)
/-- OP_58 (R187, R186): the handler of 0x58. -/
def execOp58 (s : State) : Host.Outcome State Fault Refusal := guarded s (invokeOpcode 0x58#8 s)
/-- OP_59 (R187, R186): the handler of 0x59. -/
def execOp59 (s : State) : Host.Outcome State Fault Refusal := guarded s (invokeOpcode 0x59#8 s)
/-- OP_5A (R187, R186): the handler of 0x5A. -/
def execOp5A (s : State) : Host.Outcome State Fault Refusal := guarded s (invokeOpcode 0x5A#8 s)
/-- OP_5B (R187, R186): the handler of 0x5B. -/
def execOp5B (s : State) : Host.Outcome State Fault Refusal := guarded s (invokeOpcode 0x5B#8 s)
/-- OP_5C (R187, R186): the handler of 0x5C. -/
def execOp5C (s : State) : Host.Outcome State Fault Refusal := guarded s (invokeOpcode 0x5C#8 s)
/-- OP_5D (R187, R186): the handler of 0x5D. -/
def execOp5D (s : State) : Host.Outcome State Fault Refusal := guarded s (invokeOpcode 0x5D#8 s)
/-- OP_5E (R187, R186): the handler of 0x5E. -/
def execOp5E (s : State) : Host.Outcome State Fault Refusal := guarded s (invokeOpcode 0x5E#8 s)
/-- OP_5F (R187, R186): the handler of 0x5F. -/
def execOp5F (s : State) : Host.Outcome State Fault Refusal := guarded s (invokeOpcode 0x5F#8 s)
/-- OP_60 (R187, R186): the handler of 0x60. -/
def execOp60 (s : State) : Host.Outcome State Fault Refusal := guarded s (invokeOpcode 0x60#8 s)
/-- OP_61 (R187, R186): the handler of 0x61. -/
def execOp61 (s : State) : Host.Outcome State Fault Refusal := guarded s (invokeOpcode 0x61#8 s)
/-- OP_62 (R187, R186): the handler of 0x62. -/
def execOp62 (s : State) : Host.Outcome State Fault Refusal := guarded s (invokeOpcode 0x62#8 s)
/-- OP_63 (R187, R186): the handler of 0x63. -/
def execOp63 (s : State) : Host.Outcome State Fault Refusal := guarded s (invokeOpcode 0x63#8 s)
/-- OP_64 (R187, R186): the handler of 0x64. -/
def execOp64 (s : State) : Host.Outcome State Fault Refusal := guarded s (invokeOpcode 0x64#8 s)
/-- OP_65 (R187, R186): the handler of 0x65. -/
def execOp65 (s : State) : Host.Outcome State Fault Refusal := guarded s (invokeOpcode 0x65#8 s)
/-- OP_66 (R187, R186): the handler of 0x66. -/
def execOp66 (s : State) : Host.Outcome State Fault Refusal := guarded s (invokeOpcode 0x66#8 s)
/-- OP_67 (R187, R186): the handler of 0x67. -/
def execOp67 (s : State) : Host.Outcome State Fault Refusal := guarded s (invokeOpcode 0x67#8 s)
/-- OP_68 (R187, R186): the handler of 0x68. -/
def execOp68 (s : State) : Host.Outcome State Fault Refusal := guarded s (invokeOpcode 0x68#8 s)
/-- OP_69 (R187, R186): the handler of 0x69. -/
def execOp69 (s : State) : Host.Outcome State Fault Refusal := guarded s (invokeOpcode 0x69#8 s)
/-- OP_6A (R187, R186): the handler of 0x6A. -/
def execOp6A (s : State) : Host.Outcome State Fault Refusal := guarded s (invokeOpcode 0x6A#8 s)
/-- OP_6B (R187, R186): the handler of 0x6B. -/
def execOp6B (s : State) : Host.Outcome State Fault Refusal := guarded s (invokeOpcode 0x6B#8 s)
/-- OP_6C (R187, R186): the handler of 0x6C. -/
def execOp6C (s : State) : Host.Outcome State Fault Refusal := guarded s (invokeOpcode 0x6C#8 s)
/-- OP_6D (R187, R186): the handler of 0x6D. -/
def execOp6D (s : State) : Host.Outcome State Fault Refusal := guarded s (invokeOpcode 0x6D#8 s)
/-- OP_6E (R187, R186): the handler of 0x6E. -/
def execOp6E (s : State) : Host.Outcome State Fault Refusal := guarded s (invokeOpcode 0x6E#8 s)
/-- OP_6F (R187, R186): the handler of 0x6F. -/
def execOp6F (s : State) : Host.Outcome State Fault Refusal := guarded s (invokeOpcode 0x6F#8 s)
/-- OP_70 (R187, R186): the handler of 0x70. -/
def execOp70 (s : State) : Host.Outcome State Fault Refusal := guarded s (invokeOpcode 0x70#8 s)
/-- OP_71 (R187, R186): the handler of 0x71. -/
def execOp71 (s : State) : Host.Outcome State Fault Refusal := guarded s (invokeOpcode 0x71#8 s)
/-- OP_72 (R187, R186): the handler of 0x72. -/
def execOp72 (s : State) : Host.Outcome State Fault Refusal := guarded s (invokeOpcode 0x72#8 s)
/-- OP_73 (R187, R186): the handler of 0x73. -/
def execOp73 (s : State) : Host.Outcome State Fault Refusal := guarded s (invokeOpcode 0x73#8 s)
/-- OP_74 (R187, R186): the handler of 0x74. -/
def execOp74 (s : State) : Host.Outcome State Fault Refusal := guarded s (invokeOpcode 0x74#8 s)
/-- OP_75 (R187, R186): the handler of 0x75. -/
def execOp75 (s : State) : Host.Outcome State Fault Refusal := guarded s (invokeOpcode 0x75#8 s)
/-- OP_76 (R187, R186): the handler of 0x76. -/
def execOp76 (s : State) : Host.Outcome State Fault Refusal := guarded s (invokeOpcode 0x76#8 s)
/-- OP_77 (R187, R186): the handler of 0x77. -/
def execOp77 (s : State) : Host.Outcome State Fault Refusal := guarded s (invokeOpcode 0x77#8 s)
/-- OP_78 (R187, R186): the handler of 0x78. -/
def execOp78 (s : State) : Host.Outcome State Fault Refusal := guarded s (invokeOpcode 0x78#8 s)
/-- OP_79 (R187, R186): the handler of 0x79. -/
def execOp79 (s : State) : Host.Outcome State Fault Refusal := guarded s (invokeOpcode 0x79#8 s)
/-- OP_7A (R187, R186): the handler of 0x7A. -/
def execOp7A (s : State) : Host.Outcome State Fault Refusal := guarded s (invokeOpcode 0x7A#8 s)
/-- OP_7B (R187, R186): the handler of 0x7B. -/
def execOp7B (s : State) : Host.Outcome State Fault Refusal := guarded s (invokeOpcode 0x7B#8 s)
/-- OP_7C (R187, R186): the handler of 0x7C. -/
def execOp7C (s : State) : Host.Outcome State Fault Refusal := guarded s (invokeOpcode 0x7C#8 s)
/-- OP_7D (R187, R186): the handler of 0x7D. -/
def execOp7D (s : State) : Host.Outcome State Fault Refusal := guarded s (invokeOpcode 0x7D#8 s)
/-- OP_7E (R187, R186): the handler of 0x7E. -/
def execOp7E (s : State) : Host.Outcome State Fault Refusal := guarded s (invokeOpcode 0x7E#8 s)
/-- OP_7F (R187, R186): the handler of 0x7F. -/
def execOp7F (s : State) : Host.Outcome State Fault Refusal := guarded s (invokeOpcode 0x7F#8 s)
/-- OP_80 (R187, R186): the handler of 0x80. -/
def execOp80 (s : State) : Host.Outcome State Fault Refusal := guarded s (invokeOpcode 0x80#8 s)
/-- OP_81 (R187, R186): the handler of 0x81. -/
def execOp81 (s : State) : Host.Outcome State Fault Refusal := guarded s (invokeOpcode 0x81#8 s)
/-- OP_82 (R187, R186): the handler of 0x82. -/
def execOp82 (s : State) : Host.Outcome State Fault Refusal := guarded s (invokeOpcode 0x82#8 s)
/-- OP_83 (R187, R186): the handler of 0x83. -/
def execOp83 (s : State) : Host.Outcome State Fault Refusal := guarded s (invokeOpcode 0x83#8 s)
/-- OP_84 (R187, R186): the handler of 0x84. -/
def execOp84 (s : State) : Host.Outcome State Fault Refusal := guarded s (invokeOpcode 0x84#8 s)
/-- OP_85 (R187, R186): the handler of 0x85. -/
def execOp85 (s : State) : Host.Outcome State Fault Refusal := guarded s (invokeOpcode 0x85#8 s)
/-- OP_86 (R187, R186): the handler of 0x86. -/
def execOp86 (s : State) : Host.Outcome State Fault Refusal := guarded s (invokeOpcode 0x86#8 s)
/-- OP_87 (R187, R186): the handler of 0x87. -/
def execOp87 (s : State) : Host.Outcome State Fault Refusal := guarded s (invokeOpcode 0x87#8 s)
/-- OP_88 (R187, R186): the handler of 0x88. -/
def execOp88 (s : State) : Host.Outcome State Fault Refusal := guarded s (invokeOpcode 0x88#8 s)
/-- OP_89 (R187, R186): the handler of 0x89. -/
def execOp89 (s : State) : Host.Outcome State Fault Refusal := guarded s (invokeOpcode 0x89#8 s)
/-- OP_8A (R187, R186): the handler of 0x8A. -/
def execOp8A (s : State) : Host.Outcome State Fault Refusal := guarded s (invokeOpcode 0x8A#8 s)
/-- OP_8B (R187, R186): the handler of 0x8B. -/
def execOp8B (s : State) : Host.Outcome State Fault Refusal := guarded s (invokeOpcode 0x8B#8 s)
/-- OP_8C (R187, R186): the handler of 0x8C. -/
def execOp8C (s : State) : Host.Outcome State Fault Refusal := guarded s (invokeOpcode 0x8C#8 s)
/-- OP_8D (R187, R186): the handler of 0x8D. -/
def execOp8D (s : State) : Host.Outcome State Fault Refusal := guarded s (invokeOpcode 0x8D#8 s)
/-- OP_8E (R187, R186): the handler of 0x8E. -/
def execOp8E (s : State) : Host.Outcome State Fault Refusal := guarded s (invokeOpcode 0x8E#8 s)
/-- OP_8F (R187, R186): the handler of 0x8F. -/
def execOp8F (s : State) : Host.Outcome State Fault Refusal := guarded s (invokeOpcode 0x8F#8 s)
/-- OP_90 (R187, R186): the handler of 0x90. -/
def execOp90 (s : State) : Host.Outcome State Fault Refusal := guarded s (invokeOpcode 0x90#8 s)
/-- OP_91 (R187, R186): the handler of 0x91. -/
def execOp91 (s : State) : Host.Outcome State Fault Refusal := guarded s (invokeOpcode 0x91#8 s)
/-- OP_92 (R187, R186): the handler of 0x92. -/
def execOp92 (s : State) : Host.Outcome State Fault Refusal := guarded s (invokeOpcode 0x92#8 s)
/-- OP_93 (R187, R186): the handler of 0x93. -/
def execOp93 (s : State) : Host.Outcome State Fault Refusal := guarded s (invokeOpcode 0x93#8 s)
/-- OP_94 (R187, R186): the handler of 0x94. -/
def execOp94 (s : State) : Host.Outcome State Fault Refusal := guarded s (invokeOpcode 0x94#8 s)
/-- OP_95 (R187, R186): the handler of 0x95. -/
def execOp95 (s : State) : Host.Outcome State Fault Refusal := guarded s (invokeOpcode 0x95#8 s)
/-- OP_96 (R187, R186): the handler of 0x96. -/
def execOp96 (s : State) : Host.Outcome State Fault Refusal := guarded s (invokeOpcode 0x96#8 s)
/-- OP_97 (R187, R186): the handler of 0x97. -/
def execOp97 (s : State) : Host.Outcome State Fault Refusal := guarded s (invokeOpcode 0x97#8 s)
/-- OP_98 (R187, R186): the handler of 0x98. -/
def execOp98 (s : State) : Host.Outcome State Fault Refusal := guarded s (invokeOpcode 0x98#8 s)
/-- OP_99 (R187, R186): the handler of 0x99. -/
def execOp99 (s : State) : Host.Outcome State Fault Refusal := guarded s (invokeOpcode 0x99#8 s)
/-- OP_9A (R187, R186): the handler of 0x9A. -/
def execOp9A (s : State) : Host.Outcome State Fault Refusal := guarded s (invokeOpcode 0x9A#8 s)
/-- OP_9B (R187, R186): the handler of 0x9B. -/
def execOp9B (s : State) : Host.Outcome State Fault Refusal := guarded s (invokeOpcode 0x9B#8 s)
/-- OP_9C (R187, R186): the handler of 0x9C. -/
def execOp9C (s : State) : Host.Outcome State Fault Refusal := guarded s (invokeOpcode 0x9C#8 s)
/-- OP_9D (R187, R186): the handler of 0x9D. -/
def execOp9D (s : State) : Host.Outcome State Fault Refusal := guarded s (invokeOpcode 0x9D#8 s)
/-- OP_9E (R187, R186): the handler of 0x9E. -/
def execOp9E (s : State) : Host.Outcome State Fault Refusal := guarded s (invokeOpcode 0x9E#8 s)
/-- OP_9F (R187, R186): the handler of 0x9F. -/
def execOp9F (s : State) : Host.Outcome State Fault Refusal := guarded s (invokeOpcode 0x9F#8 s)
/-- OP_A0 (R187, R186): the handler of 0xA0. -/
def execOpA0 (s : State) : Host.Outcome State Fault Refusal := guarded s (invokeOpcode 0xA0#8 s)
/-- OP_A1 (R187, R186): the handler of 0xA1. -/
def execOpA1 (s : State) : Host.Outcome State Fault Refusal := guarded s (invokeOpcode 0xA1#8 s)
/-- OP_A2 (R187, R186): the handler of 0xA2. -/
def execOpA2 (s : State) : Host.Outcome State Fault Refusal := guarded s (invokeOpcode 0xA2#8 s)
/-- OP_A3 (R187, R186): the handler of 0xA3. -/
def execOpA3 (s : State) : Host.Outcome State Fault Refusal := guarded s (invokeOpcode 0xA3#8 s)
/-- OP_A4 (R187, R186): the handler of 0xA4. -/
def execOpA4 (s : State) : Host.Outcome State Fault Refusal := guarded s (invokeOpcode 0xA4#8 s)
/-- OP_A5 (R187, R186): the handler of 0xA5. -/
def execOpA5 (s : State) : Host.Outcome State Fault Refusal := guarded s (invokeOpcode 0xA5#8 s)
/-- OP_A6 (R187, R186): the handler of 0xA6. -/
def execOpA6 (s : State) : Host.Outcome State Fault Refusal := guarded s (invokeOpcode 0xA6#8 s)
/-- OP_A7 (R187, R186): the handler of 0xA7. -/
def execOpA7 (s : State) : Host.Outcome State Fault Refusal := guarded s (invokeOpcode 0xA7#8 s)
/-- OP_A8 (R187, R186): the handler of 0xA8. -/
def execOpA8 (s : State) : Host.Outcome State Fault Refusal := guarded s (invokeOpcode 0xA8#8 s)
/-- OP_A9 (R187, R186): the handler of 0xA9. -/
def execOpA9 (s : State) : Host.Outcome State Fault Refusal := guarded s (invokeOpcode 0xA9#8 s)
/-- OP_AA (R187, R186): the handler of 0xAA. -/
def execOpAA (s : State) : Host.Outcome State Fault Refusal := guarded s (invokeOpcode 0xAA#8 s)
/-- OP_AB (R187, R186): the handler of 0xAB. -/
def execOpAB (s : State) : Host.Outcome State Fault Refusal := guarded s (invokeOpcode 0xAB#8 s)
/-- OP_AC (R187, R186): the handler of 0xAC. -/
def execOpAC (s : State) : Host.Outcome State Fault Refusal := guarded s (invokeOpcode 0xAC#8 s)
/-- OP_AD (R187, R186): the handler of 0xAD. -/
def execOpAD (s : State) : Host.Outcome State Fault Refusal := guarded s (invokeOpcode 0xAD#8 s)
/-- OP_AE (R187, R186): the handler of 0xAE. -/
def execOpAE (s : State) : Host.Outcome State Fault Refusal := guarded s (invokeOpcode 0xAE#8 s)
/-- OP_AF (R187, R186): the handler of 0xAF. -/
def execOpAF (s : State) : Host.Outcome State Fault Refusal := guarded s (invokeOpcode 0xAF#8 s)
/-- OP_B0 (R187, R186): the handler of 0xB0. -/
def execOpB0 (s : State) : Host.Outcome State Fault Refusal := guarded s (invokeOpcode 0xB0#8 s)
/-- OP_B1 (R187, R186): the handler of 0xB1. -/
def execOpB1 (s : State) : Host.Outcome State Fault Refusal := guarded s (invokeOpcode 0xB1#8 s)
/-- OP_B2 (R187, R186): the handler of 0xB2. -/
def execOpB2 (s : State) : Host.Outcome State Fault Refusal := guarded s (invokeOpcode 0xB2#8 s)
/-- OP_B3 (R187, R186): the handler of 0xB3. -/
def execOpB3 (s : State) : Host.Outcome State Fault Refusal := guarded s (invokeOpcode 0xB3#8 s)
/-- OP_B4 (R187, R186): the handler of 0xB4. -/
def execOpB4 (s : State) : Host.Outcome State Fault Refusal := guarded s (invokeOpcode 0xB4#8 s)
/-- OP_B5 (R187, R186): the handler of 0xB5. -/
def execOpB5 (s : State) : Host.Outcome State Fault Refusal := guarded s (invokeOpcode 0xB5#8 s)
/-- OP_B6 (R187, R186): the handler of 0xB6. -/
def execOpB6 (s : State) : Host.Outcome State Fault Refusal := guarded s (invokeOpcode 0xB6#8 s)
/-- OP_B7 (R187, R186): the handler of 0xB7. -/
def execOpB7 (s : State) : Host.Outcome State Fault Refusal := guarded s (invokeOpcode 0xB7#8 s)
/-- OP_B8 (R187, R186): the handler of 0xB8. -/
def execOpB8 (s : State) : Host.Outcome State Fault Refusal := guarded s (invokeOpcode 0xB8#8 s)
/-- OP_B9 (R187, R186): the handler of 0xB9. -/
def execOpB9 (s : State) : Host.Outcome State Fault Refusal := guarded s (invokeOpcode 0xB9#8 s)
/-- OP_BA (R187, R186): the handler of 0xBA. -/
def execOpBA (s : State) : Host.Outcome State Fault Refusal := guarded s (invokeOpcode 0xBA#8 s)
/-- OP_BB (R187, R186): the handler of 0xBB. -/
def execOpBB (s : State) : Host.Outcome State Fault Refusal := guarded s (invokeOpcode 0xBB#8 s)
/-- OP_BC (R187, R186): the handler of 0xBC. -/
def execOpBC (s : State) : Host.Outcome State Fault Refusal := guarded s (invokeOpcode 0xBC#8 s)
/-- OP_BD (R187, R186): the handler of 0xBD. -/
def execOpBD (s : State) : Host.Outcome State Fault Refusal := guarded s (invokeOpcode 0xBD#8 s)
/-- OP_BE (R187, R186): the handler of 0xBE. -/
def execOpBE (s : State) : Host.Outcome State Fault Refusal := guarded s (invokeOpcode 0xBE#8 s)
/-- OP_BF (R187, R186): the handler of 0xBF. -/
def execOpBF (s : State) : Host.Outcome State Fault Refusal := guarded s (invokeOpcode 0xBF#8 s)
/-- OP_C0 (R187, R186): the handler of 0xC0. -/
def execOpC0 (s : State) : Host.Outcome State Fault Refusal := guarded s (invokeOpcode 0xC0#8 s)
/-- OP_C1 (R187, R186): the handler of 0xC1. -/
def execOpC1 (s : State) : Host.Outcome State Fault Refusal := guarded s (invokeOpcode 0xC1#8 s)
/-- OP_C2 (R187, R186): the handler of 0xC2. -/
def execOpC2 (s : State) : Host.Outcome State Fault Refusal := guarded s (invokeOpcode 0xC2#8 s)
/-- OP_C3 (R187, R186): the handler of 0xC3. -/
def execOpC3 (s : State) : Host.Outcome State Fault Refusal := guarded s (invokeOpcode 0xC3#8 s)
/-- OP_C4 (R187, R186): the handler of 0xC4. -/
def execOpC4 (s : State) : Host.Outcome State Fault Refusal := guarded s (invokeOpcode 0xC4#8 s)
/-- OP_C5 (R187, R186): the handler of 0xC5. -/
def execOpC5 (s : State) : Host.Outcome State Fault Refusal := guarded s (invokeOpcode 0xC5#8 s)
/-- OP_C6 (R187, R186): the handler of 0xC6. -/
def execOpC6 (s : State) : Host.Outcome State Fault Refusal := guarded s (invokeOpcode 0xC6#8 s)
/-- OP_C7 (R187, R186): the handler of 0xC7. -/
def execOpC7 (s : State) : Host.Outcome State Fault Refusal := guarded s (invokeOpcode 0xC7#8 s)
/-- OP_C8 (R187, R186): the handler of 0xC8. -/
def execOpC8 (s : State) : Host.Outcome State Fault Refusal := guarded s (invokeOpcode 0xC8#8 s)
/-- OP_C9 (R187, R186): the handler of 0xC9. -/
def execOpC9 (s : State) : Host.Outcome State Fault Refusal := guarded s (invokeOpcode 0xC9#8 s)
/-- OP_CA (R187, R186): the handler of 0xCA. -/
def execOpCA (s : State) : Host.Outcome State Fault Refusal := guarded s (invokeOpcode 0xCA#8 s)
/-- OP_CB (R187, R186): the handler of 0xCB. -/
def execOpCB (s : State) : Host.Outcome State Fault Refusal := guarded s (invokeOpcode 0xCB#8 s)
/-- OP_CC (R187, R186): the handler of 0xCC. -/
def execOpCC (s : State) : Host.Outcome State Fault Refusal := guarded s (invokeOpcode 0xCC#8 s)
/-- OP_CD (R187, R186): the handler of 0xCD. -/
def execOpCD (s : State) : Host.Outcome State Fault Refusal := guarded s (invokeOpcode 0xCD#8 s)
/-- OP_CE (R187, R186): the handler of 0xCE. -/
def execOpCE (s : State) : Host.Outcome State Fault Refusal := guarded s (invokeOpcode 0xCE#8 s)
/-- OP_CF (R187, R186): the handler of 0xCF. -/
def execOpCF (s : State) : Host.Outcome State Fault Refusal := guarded s (invokeOpcode 0xCF#8 s)
/-- OP_D0 (R187, R186): the handler of 0xD0. -/
def execOpD0 (s : State) : Host.Outcome State Fault Refusal := guarded s (invokeOpcode 0xD0#8 s)
/-- OP_D1 (R187, R186): the handler of 0xD1. -/
def execOpD1 (s : State) : Host.Outcome State Fault Refusal := guarded s (invokeOpcode 0xD1#8 s)
/-- OP_D2 (R187, R186): the handler of 0xD2. -/
def execOpD2 (s : State) : Host.Outcome State Fault Refusal := guarded s (invokeOpcode 0xD2#8 s)
/-- OP_D3 (R187, R186): the handler of 0xD3. -/
def execOpD3 (s : State) : Host.Outcome State Fault Refusal := guarded s (invokeOpcode 0xD3#8 s)
/-- OP_D4 (R187, R186): the handler of 0xD4. -/
def execOpD4 (s : State) : Host.Outcome State Fault Refusal := guarded s (invokeOpcode 0xD4#8 s)
/-- OP_D5 (R187, R186): the handler of 0xD5. -/
def execOpD5 (s : State) : Host.Outcome State Fault Refusal := guarded s (invokeOpcode 0xD5#8 s)
/-- OP_D6 (R187, R186): the handler of 0xD6. -/
def execOpD6 (s : State) : Host.Outcome State Fault Refusal := guarded s (invokeOpcode 0xD6#8 s)
/-- OP_D7 (R187, R186): the handler of 0xD7. -/
def execOpD7 (s : State) : Host.Outcome State Fault Refusal := guarded s (invokeOpcode 0xD7#8 s)
/-- OP_D8 (R187, R186): the handler of 0xD8. -/
def execOpD8 (s : State) : Host.Outcome State Fault Refusal := guarded s (invokeOpcode 0xD8#8 s)
/-- OP_D9 (R187, R186): the handler of 0xD9. -/
def execOpD9 (s : State) : Host.Outcome State Fault Refusal := guarded s (invokeOpcode 0xD9#8 s)
/-- OP_DA (R187, R186): the handler of 0xDA. -/
def execOpDA (s : State) : Host.Outcome State Fault Refusal := guarded s (invokeOpcode 0xDA#8 s)
/-- OP_DB (R187, R186): the handler of 0xDB. -/
def execOpDB (s : State) : Host.Outcome State Fault Refusal := guarded s (invokeOpcode 0xDB#8 s)
/-- OP_DC (R187, R186): the handler of 0xDC. -/
def execOpDC (s : State) : Host.Outcome State Fault Refusal := guarded s (invokeOpcode 0xDC#8 s)
/-- OP_DD (R187, R186): the handler of 0xDD. -/
def execOpDD (s : State) : Host.Outcome State Fault Refusal := guarded s (invokeOpcode 0xDD#8 s)
/-- OP_DE (R187, R186): the handler of 0xDE. -/
def execOpDE (s : State) : Host.Outcome State Fault Refusal := guarded s (invokeOpcode 0xDE#8 s)
/-- OP_DF (R187, R186): the handler of 0xDF. -/
def execOpDF (s : State) : Host.Outcome State Fault Refusal := guarded s (invokeOpcode 0xDF#8 s)
/-- OP_E0 (R187, R186): the handler of 0xE0. -/
def execOpE0 (s : State) : Host.Outcome State Fault Refusal := guarded s (invokeOpcode 0xE0#8 s)
/-- OP_E1 (R187, R186): the handler of 0xE1. -/
def execOpE1 (s : State) : Host.Outcome State Fault Refusal := guarded s (invokeOpcode 0xE1#8 s)
/-- OP_E2 (R187, R186): the handler of 0xE2. -/
def execOpE2 (s : State) : Host.Outcome State Fault Refusal := guarded s (invokeOpcode 0xE2#8 s)
/-- OP_E3 (R187, R186): the handler of 0xE3. -/
def execOpE3 (s : State) : Host.Outcome State Fault Refusal := guarded s (invokeOpcode 0xE3#8 s)
/-- OP_E4 (R187, R186): the handler of 0xE4. -/
def execOpE4 (s : State) : Host.Outcome State Fault Refusal := guarded s (invokeOpcode 0xE4#8 s)
/-- OP_E5 (R187, R186): the handler of 0xE5. -/
def execOpE5 (s : State) : Host.Outcome State Fault Refusal := guarded s (invokeOpcode 0xE5#8 s)
/-- OP_E6 (R187, R186): the handler of 0xE6. -/
def execOpE6 (s : State) : Host.Outcome State Fault Refusal := guarded s (invokeOpcode 0xE6#8 s)
/-- OP_E7 (R187, R186): the handler of 0xE7. -/
def execOpE7 (s : State) : Host.Outcome State Fault Refusal := guarded s (invokeOpcode 0xE7#8 s)
/-- OP_E8 (R187, R186): the handler of 0xE8. -/
def execOpE8 (s : State) : Host.Outcome State Fault Refusal := guarded s (invokeOpcode 0xE8#8 s)
/-- OP_E9 (R187, R186): the handler of 0xE9. -/
def execOpE9 (s : State) : Host.Outcome State Fault Refusal := guarded s (invokeOpcode 0xE9#8 s)
/-- OP_EA (R187, R186): the handler of 0xEA. -/
def execOpEA (s : State) : Host.Outcome State Fault Refusal := guarded s (invokeOpcode 0xEA#8 s)
/-- OP_EB (R187, R186): the handler of 0xEB. -/
def execOpEB (s : State) : Host.Outcome State Fault Refusal := guarded s (invokeOpcode 0xEB#8 s)
/-- OP_EC (R187, R186): the handler of 0xEC. -/
def execOpEC (s : State) : Host.Outcome State Fault Refusal := guarded s (invokeOpcode 0xEC#8 s)
/-- OP_ED (R187, R186): the handler of 0xED. -/
def execOpED (s : State) : Host.Outcome State Fault Refusal := guarded s (invokeOpcode 0xED#8 s)
/-- OP_EE (R187, R186): the handler of 0xEE. -/
def execOpEE (s : State) : Host.Outcome State Fault Refusal := guarded s (invokeOpcode 0xEE#8 s)
/-- OP_EF (R187, R186): the handler of 0xEF. -/
def execOpEF (s : State) : Host.Outcome State Fault Refusal := guarded s (invokeOpcode 0xEF#8 s)
/-- OP_F0 (R187, R186): the handler of 0xF0. -/
def execOpF0 (s : State) : Host.Outcome State Fault Refusal := guarded s (invokeOpcode 0xF0#8 s)
/-- OP_F1 (R187, R186): the handler of 0xF1. -/
def execOpF1 (s : State) : Host.Outcome State Fault Refusal := guarded s (invokeOpcode 0xF1#8 s)
/-- OP_F2 (R187, R186): the handler of 0xF2. -/
def execOpF2 (s : State) : Host.Outcome State Fault Refusal := guarded s (invokeOpcode 0xF2#8 s)
/-- OP_F3 (R187, R186): the handler of 0xF3. -/
def execOpF3 (s : State) : Host.Outcome State Fault Refusal := guarded s (invokeOpcode 0xF3#8 s)
/-- OP_F4 (R187, R186): the handler of 0xF4. -/
def execOpF4 (s : State) : Host.Outcome State Fault Refusal := guarded s (invokeOpcode 0xF4#8 s)
/-- OP_F5 (R187, R186): the handler of 0xF5. -/
def execOpF5 (s : State) : Host.Outcome State Fault Refusal := guarded s (invokeOpcode 0xF5#8 s)
/-- OP_F6 (R187, R186): the handler of 0xF6. -/
def execOpF6 (s : State) : Host.Outcome State Fault Refusal := guarded s (invokeOpcode 0xF6#8 s)
/-- OP_F7 (R187, R186): the handler of 0xF7. -/
def execOpF7 (s : State) : Host.Outcome State Fault Refusal := guarded s (invokeOpcode 0xF7#8 s)
/-- OP_F8 (R187, R186): the handler of 0xF8. -/
def execOpF8 (s : State) : Host.Outcome State Fault Refusal := guarded s (invokeOpcode 0xF8#8 s)
/-- OP_F9 (R187, R186): the handler of 0xF9. -/
def execOpF9 (s : State) : Host.Outcome State Fault Refusal := guarded s (invokeOpcode 0xF9#8 s)
/-- OP_FA (R187, R186): the handler of 0xFA. -/
def execOpFA (s : State) : Host.Outcome State Fault Refusal := guarded s (invokeOpcode 0xFA#8 s)
/-- OP_FB (R187, R186): the handler of 0xFB. -/
def execOpFB (s : State) : Host.Outcome State Fault Refusal := guarded s (invokeOpcode 0xFB#8 s)
/-- OP_FC (R187, R186): the handler of 0xFC. -/
def execOpFC (s : State) : Host.Outcome State Fault Refusal := guarded s (invokeOpcode 0xFC#8 s)
/-- OP_FD (R187, R186): the handler of 0xFD. -/
def execOpFD (s : State) : Host.Outcome State Fault Refusal := guarded s (invokeOpcode 0xFD#8 s)
/-- OP_FE (R187, R186): the handler of 0xFE. -/
def execOpFE (s : State) : Host.Outcome State Fault Refusal := guarded s (invokeOpcode 0xFE#8 s)
/-- OP_FF (R187, R186): the handler of 0xFF. -/
def execOpFF (s : State) : Host.Outcome State Fault Refusal := guarded s (invokeOpcode 0xFF#8 s)

end Sys2Proof.Machine
end

