-- ==== Sys2Proof/Machine/DispatchTable.lean ====
section
/-! DEFINITION. The dispatch table: a fixed array of 256 handlers indexed by the opcode byte (R180, R181, R188 of spec/43_dispatch.md). No
command changes an entry, so it is a definition and no part of State. -/

namespace Sys2Proof.Machine

/-- One handler invocation, as a function of the state. -/
abbrev Handler := State → Host.Outcome State Fault Refusal

/-- The handlers of the opcodes 0x00 to 0x0F. -/
def handlerRow0 : List Handler :=
  [execNop, execOp01, execOp02, execOp03, execOp04, execOp05, execOp06, execOp07,
   execOp08, execOp09, execOp0A, execOp0B, execOp0C, execOp0D, execOp0E, execOp0F]

/-- The handlers of the opcodes 0x10 to 0x1F. -/
def handlerRow1 : List Handler :=
  [execOp10, execOp11, execOp12, execOp13, execOp14, execOp15, execOp16, execOp17,
   execOp18, execOp19, execOp1A, execOp1B, execOp1C, execOp1D, execOp1E, execOp1F]

/-- The handlers of the opcodes 0x20 to 0x2F. -/
def handlerRow2 : List Handler :=
  [execOp20, execOp21, execOp22, execOp23, execOp24, execOp25, execOp26, execOp27,
   execOp28, execOp29, execOp2A, execOp2B, execOp2C, execOp2D, execOp2E, execOp2F]

/-- The handlers of the opcodes 0x30 to 0x3F. -/
def handlerRow3 : List Handler :=
  [execOp30, execOp31, execOp32, execOp33, execOp34, execOp35, execOp36, execOp37,
   execOp38, execOp39, execOp3A, execOp3B, execOp3C, execOp3D, execOp3E, execOp3F]

/-- The handlers of the opcodes 0x40 to 0x4F. -/
def handlerRow4 : List Handler :=
  [execOp40, execOp41, execOp42, execOp43, execOp44, execOp45, execOp46, execOp47,
   execOp48, execOp49, execOp4A, execOp4B, execOp4C, execOp4D, execOp4E, execOp4F]

/-- The handlers of the opcodes 0x50 to 0x5F. -/
def handlerRow5 : List Handler :=
  [execOp50, execOp51, execOp52, execOp53, execOp54, execOp55, execOp56, execOp57,
   execOp58, execOp59, execOp5A, execOp5B, execOp5C, execOp5D, execOp5E, execOp5F]

/-- The handlers of the opcodes 0x60 to 0x6F. -/
def handlerRow6 : List Handler :=
  [execOp60, execOp61, execOp62, execOp63, execOp64, execOp65, execOp66, execOp67,
   execOp68, execOp69, execOp6A, execOp6B, execOp6C, execOp6D, execOp6E, execOp6F]

/-- The handlers of the opcodes 0x70 to 0x7F. -/
def handlerRow7 : List Handler :=
  [execOp70, execOp71, execOp72, execOp73, execOp74, execOp75, execOp76, execOp77,
   execOp78, execOp79, execOp7A, execOp7B, execOp7C, execOp7D, execOp7E, execOp7F]

/-- The handlers of the opcodes 0x80 to 0x8F. -/
def handlerRow8 : List Handler :=
  [execOp80, execOp81, execOp82, execOp83, execOp84, execOp85, execOp86, execOp87,
   execOp88, execOp89, execOp8A, execOp8B, execOp8C, execOp8D, execOp8E, execOp8F]

/-- The handlers of the opcodes 0x90 to 0x9F. -/
def handlerRow9 : List Handler :=
  [execOp90, execOp91, execOp92, execOp93, execOp94, execOp95, execOp96, execOp97,
   execOp98, execOp99, execOp9A, execOp9B, execOp9C, execOp9D, execOp9E, execOp9F]

/-- The handlers of the opcodes 0xA0 to 0xAF. -/
def handlerRowA : List Handler :=
  [execOpA0, execOpA1, execOpA2, execOpA3, execOpA4, execOpA5, execOpA6, execOpA7,
   execOpA8, execOpA9, execOpAA, execOpAB, execOpAC, execOpAD, execOpAE, execOpAF]

/-- The handlers of the opcodes 0xB0 to 0xBF. -/
def handlerRowB : List Handler :=
  [execOpB0, execOpB1, execOpB2, execOpB3, execOpB4, execOpB5, execOpB6, execOpB7,
   execOpB8, execOpB9, execOpBA, execOpBB, execOpBC, execOpBD, execOpBE, execOpBF]

/-- The handlers of the opcodes 0xC0 to 0xCF. -/
def handlerRowC : List Handler :=
  [execOpC0, execOpC1, execOpC2, execOpC3, execOpC4, execOpC5, execOpC6, execOpC7,
   execOpC8, execOpC9, execOpCA, execOpCB, execOpCC, execOpCD, execOpCE, execOpCF]

/-- The handlers of the opcodes 0xD0 to 0xDF. -/
def handlerRowD : List Handler :=
  [execOpD0, execOpD1, execOpD2, execOpD3, execOpD4, execOpD5, execOpD6, execOpD7,
   execOpD8, execOpD9, execOpDA, execOpDB, execOpDC, execOpDD, execOpDE, execOpDF]

/-- The handlers of the opcodes 0xE0 to 0xEF. -/
def handlerRowE : List Handler :=
  [execOpE0, execOpE1, execOpE2, execOpE3, execOpE4, execOpE5, execOpE6, execOpE7,
   execOpE8, execOpE9, execOpEA, execOpEB, execOpEC, execOpED, execOpEE, execOpEF]

/-- The handlers of the opcodes 0xF0 to 0xFF. -/
def handlerRowF : List Handler :=
  [execOpF0, execOpF1, execOpF2, execOpF3, execOpF4, execOpF5, execOpF6, execOpF7,
   execOpF8, execOpF9, execOpFA, execOpFB, execOpFC, execOpFD, execOpFE, execOpFF]

/-- The table, in the order of the opcode byte. -/
def handlerTable : List Handler :=
  handlerRow0 ++ handlerRow1 ++ handlerRow2 ++ handlerRow3 ++ handlerRow4 ++ handlerRow5 ++ handlerRow6 ++ handlerRow7 ++
  handlerRow8 ++ handlerRow9 ++ handlerRowA ++ handlerRowB ++ handlerRowC ++ handlerRowD ++ handlerRowE ++ handlerRowF

/-- Every one of the 256 indices holds a handler (R188). -/
theorem handlerTable_length : handlerTable.length = 256 := by
  simp only [handlerTable, List.length_append]
  rfl

/-- R181: handler(op), the entry at index op. It reads nothing else and cannot fail. -/
def handler (op : Byte) : Handler :=
  handlerTable[op.toNat]'(by rw [handlerTable_length]; exact op.isLt)

end Sys2Proof.Machine
end

