-- ==== Sys2Proof/Machine/FetchExecute.lean ====
section
/-! DEFINITION. The rows of the fetch/execute state machine and of test mode (spec/42_fetch_execute.md). -/

namespace Sys2Proof.Machine

/-- TICK (R150). FETCH runs FetchStep (R151); EXECUTE invokes the handler of the latched opcode, as it stands at the start of the tick
(R155, R157), and goes on by its reply (R156, R158); TEST takes no action (R160). Every tick ends with advance() (R102). -/
def execTick (s : State) : Host.Outcome State Fault Refusal :=
  match s.core.topState with
  | .fetch => guarded s (endTick (fetchStep s))
  | .execute => finishExecuteTick (handler s.core.instructionLatch s)
  | .test => guarded s (endTick (.ok s))

/-- ENTER_TEST (R163): the mode becomes TEST and nothing else changes. -/
def execEnterTest (s : State) : Host.Outcome State Fault Refusal := guarded s (.ok (s.setTopState .test))

/-- HARNESS_SET (R164). -/
def execHarnessSet (w : HarnessWrite) (s : State) : Host.Outcome State Fault Refusal := ifLive s (harnessSet w s)

end Sys2Proof.Machine
end

