-- ==== Sys2Proof/Machine/Reset.lean ====
section
/-! DEFINITION. The reset row (spec/70_reset_and_hazards.md). -/

namespace Sys2Proof.Machine

/-- RESET (R230, R231): in every mode and with a transaction in flight, every field of the core and of the pins takes its reset value. The
handlers' private state and the dispatch table stay; after a fault no command runs, RESET included (R202). -/
def execReset (s : State) : Host.Outcome State Fault Refusal := guarded s (.ok (resetState s))

end Sys2Proof.Machine
end

