-- ==== Sys2Proof/Machine/Step.lean ====
section
/-! DEFINITION. One step of the machine: the next command of the outside agents runs to its end (R74 of spec/30_encoding.md: a command is
atomic). -/

namespace Sys2Proof.Machine

/-- The next command runs; with none listed it is a tick. -/
def step (s : State) : Host.Outcome State Fault Refusal :=
  exec (nextCommand s).1.toInstr (nextCommand s).2

/-- The opcode byte of value `w` stored where the next step takes its instruction from: the instruction latch, in EXECUTE, with a tick as
the next command. An opcode has 8 bits (R70), so `w` has no other bits to store. -/
def State.withFetchWord (s : State) (nbits w : Nat) : State := placeOpcode (BitVec.ofNat 8 (w % 2 ^ nbits)) s

end Sys2Proof.Machine
end

