-- ==== Sys2Proof/Safety.lean ====
section
/-! DEFINITION. What claims are stated in: the invariant of R41 of spec/10_state.md, and runs of commands. -/

namespace Sys2Proof.Machine

/-- R41 (b), (c): the phase follows the half-cycle, and the two in-flight flags are not both true. R41 (a), the half-cycle's range, is its
type. -/
def State.Inv (s : State) : Prop :=
  s.pins.phase = phaseOf s.core.halfCycle ∧ ¬(s.core.readInFlight = true ∧ s.core.writeInFlight = true)

/-- No transaction is in flight. -/
def State.Idle (s : State) : Prop := s.core.readInFlight = false ∧ s.core.writeInFlight = false

/-- No fault is recorded, so commands run (R202). -/
def State.Live (s : State) : Prop := s.faultRecord = none

/-- Run commands one after another, up to the first fault or refusal. -/
def runCommands : List Command → State → Host.Outcome State Fault Refusal
  | [], s => .next s
  | c :: rest, s =>
    match exec c.toInstr s with
    | .next t => runCommands rest t
    | .fault f => .fault f
    | .refused r => .refused r

/-- What the environment does before one half-cycle: drive a byte on the data pins, or leave them as they are (R61). -/
def environmentTurn : Option Byte → List Command
  | some e => [.driveData e]
  | none => []

/-- A transaction in TEST, stepped once per tick (R130, R164): in each half-cycle the environment has its turn, the harness issues the step
command, the enclosing system ticks. One entry of the list per half-cycle. -/
def steppedTicks (stepCommand : Command) (turns : List (Option Byte)) : List Command :=
  turns.flatMap fun e => environmentTurn e ++ [stepCommand, .tick]

/-- Ticks with a turn of the environment before each (R61, R62). -/
def drivenTicks (turns : List (Option Byte)) : List Command :=
  turns.flatMap fun e => environmentTurn e ++ [.tick]

/-- The address lies in the ROM range of R52. -/
def InRom (a : Addr) : Prop := a.toNat ≤ 0x7FFF

/-- The address lies in the RAM range of R52. -/
def InRam (a : Addr) : Prop := 0xA000 ≤ a.toNat ∧ a.toNat ≤ 0xFDFF

/-- The address lies in the HRAM/IO range of R52, or in 0x8000 to 0x9FFF, which R53 gives the HRAM_IO class. -/
def InHramIoClass (a : Addr) : Prop := (0x8000 ≤ a.toNat ∧ a.toNat ≤ 0x9FFF) ∨ 0xFE00 ≤ a.toNat

/-- The state a tick that runs FetchStep leaves, field by field (R152 to R154, R159, R100), started from the state `s` the handler left, or
from the state before the tick in FETCH. The pins are those after the read row of the half-cycle (R120). -/
def afterFetchTick (s : State) : State :=
  let c := s.core
  let h := c.halfCycle
  let begun := !c.readInFlight
  let address := if begun then c.programCounter else c.addressLatch
  let byte := if h = 6#3 then s.pins.data else c.dataLatch
  { s with
    core := {
      programCounter := if begun then c.programCounter + 1#16 else c.programCounter
      instructionLatch := if h = 7#3 then byte else c.instructionLatch
      addressLatch := address
      dataLatch := byte
      halfCycle := h + 1#3
      readInFlight := decide (h ≠ 7#3)
      writeInFlight := c.writeInFlight
      topState := if h = 7#3 ∧ c.topState = .fetch then .execute else c.topState
    }
    pins := { rowPins Config.hramWriteHc3 .read (region address) h address c.dataLatch s.pins with phase := phaseOf (h + 1#3) } }

/-- The state an invocation of the unimplemented-opcode handler leaves with UNIMPL_MORE = 0 (R186, R7): FINAL_CYCLE at once, and nothing but
the handler's own count changes. -/
def afterUnimplemented (s : State) : State :=
  { s with
    handlerState := { s.handlerState with
      unimplCount := if s.core.halfCycle = 7#3 then 0 else s.handlerState.unimplCount + 1 }
    handlerReply := some .finalCycle }

end Sys2Proof.Machine
end

