-- ==== Sys2Proof/Certificates/Slice0/Obligations.lean ====
section
/-! DEFINITION. The statements for the provers. Each formalises rules of spec/, named in its docstring. A statement that gives a next
state as an equality is that instruction's result, its completion and its frame at once: what the record update does not name is
unchanged. -/

open Sys2Proof Sys2Proof.Machine

/-! ## Reset -/

/-- R40, R232, R233: what the power-on state holds of the values the spec gives. The low address pins, the data pins and the count in the
handlers' state are the model's choices (notes/assumptions/1.md, 7.md) and are not stated; the rest of the handlers' state is a free value. -/
def Obligations.PowerOnStateHoldsTheGivenResetValues : Prop :=
  State.reset.core =
      { programCounter := 0, instructionLatch := 0, addressLatch := 0, dataLatch := 0, halfCycle := 0#3,
        readInFlight := false, writeInFlight := false, topState := .fetch } ∧
    State.reset.pins.readStrobe = true ∧ State.reset.pins.writeStrobe = true ∧ State.reset.pins.chipSelect = true ∧
    State.reset.pins.phase = true ∧ State.reset.pins.address.getLsbD 15 = true ∧ State.reset.faultRecord = none

/-- R230: RESET gives every core field and pin its reset value, in any mode and with a transaction in flight; the low address pins and the
data pins may be anything; the handlers' state stays. -/
def Obligations.ResetGivesTheResetStateInEveryMode : Prop :=
  ∀ s : State, s.faultRecord = none →
    ∃ (low : BitVec 15) (byte : Byte), ∃ t, exec .reset s = .next t ∧
      t = { s with
        core := { programCounter := 0x0000, instructionLatch := 0x00, addressLatch := 0x0000, dataLatch := 0x00, halfCycle := 0#3,
                  readInFlight := false, writeInFlight := false, topState := .fetch }
        pins := { address := 0x8000#16 ||| low.setWidth 16, data := byte, readStrobe := true, writeStrobe := true,
                  chipSelect := true, phase := true }
        draws := t.draws }

/-- R233: right after RESET, RD, WR, CS and A15 are all high. -/
def Obligations.PinsAreIdleRightAfterReset : Prop :=
  ∀ s t : State, exec .reset s = .next t →
    t.pins.readStrobe = true ∧ t.pins.writeStrobe = true ∧ t.pins.chipSelect = true ∧ t.pins.address.getLsbD 15 = true

/-! ## The clock divider -/

/-- R100, R101: ADVANCE moves the half-cycle on by one, modulo 8, and phi is high exactly for the new half-cycles 0 to 3; nothing else
changes. -/
def Obligations.AdvanceStepsHalfCycleAndPhase : Prop :=
  ∀ s : State, s.faultRecord = none →
    exec .advance s = .next { s with
      core := { s.core with halfCycle := BitVec.ofNat 3 ((s.core.halfCycle.toNat + 1) % 8) }
      pins := { s.pins with phase := decide ((s.core.halfCycle.toNat + 1) % 8 < 4) } }

/-- R102: a tick that ends advances the divider exactly once, in every mode, whatever the tick did. -/
def Obligations.EveryTickAdvancesOnceInEveryMode : Prop :=
  ∀ s t : State, exec .tick s = .next t →
    t.core.halfCycle.toNat = (s.core.halfCycle.toNat + 1) % 8 ∧ t.pins.phase = phaseOf t.core.halfCycle

/-- R103: after RESET and any commands with no further RESET, the half-cycle counts the ticks modulo 8 and phi follows it; no command but
TICK and RESET changes it. -/
def Obligations.HalfCycleCountsTheTicksSinceReset : Prop :=
  (∀ (s₀ s t : State) (cs : List Command), exec .reset s₀ = .next s → Command.reset ∉ cs → runCommands cs s = .next t →
      t.core.halfCycle.toNat = cs.count .tick % 8 ∧
        (t.pins.phase = false ↔ cs.count .tick % 8 = 4 ∨ cs.count .tick % 8 = 5 ∨ cs.count .tick % 8 = 6 ∨
          cs.count .tick % 8 = 7)) ∧
    (∀ (c : Command) (s t : State), c ≠ .tick → c ≠ .reset → exec c.toInstr s = .next t →
      t.core.halfCycle = s.core.halfCycle)

/-! ## Beginning and stepping a transaction -/

/-- R110: BEGIN_READ latches the address and sets the flag when nothing is in flight; otherwise it faults BEGIN_BUSY and changes
nothing. -/
def Obligations.BeginReadStagesTheAddressOrFaults : Prop :=
  ∀ (a : Addr) (s : State), s.faultRecord = none →
    ((s.core.readInFlight = false ∧ s.core.writeInFlight = false →
        exec (.beginRead a) s = .next { s with core := { s.core with addressLatch := a, readInFlight := true } }) ∧
      (s.core.readInFlight = true ∨ s.core.writeInFlight = true →
        exec (.beginRead a) s = .fault (.beginBusy { s with
          faultRecord := some { code := .beginBusy, command := .beginRead, halfCycle := s.core.halfCycle } })))

/-- R111: BEGIN_WRITE latches the address and the byte and sets the flag when nothing is in flight; otherwise it faults BEGIN_BUSY and
changes nothing. -/
def Obligations.BeginWriteStagesAddressAndByteOrFaults : Prop :=
  ∀ (a : Addr) (d : Byte) (s : State), s.faultRecord = none →
    ((s.core.readInFlight = false ∧ s.core.writeInFlight = false →
        exec (.beginWrite a d) s =
          .next { s with core := { s.core with addressLatch := a, dataLatch := d, writeInFlight := true } }) ∧
      (s.core.readInFlight = true ∨ s.core.writeInFlight = true →
        exec (.beginWrite a d) s = .fault (.beginBusy { s with
          faultRecord := some { code := .beginBusy, command := .beginWrite, halfCycle := s.core.halfCycle } })))

/-- R112: STEP_READ performs the read row of the current half-cycle and answers false at row 7, where it clears the flag; with no read in
flight it faults STEP_IDLE and changes nothing. -/
def Obligations.StepReadPerformsTheRowOrFaults : Prop :=
  ∀ s : State, s.faultRecord = none →
    ((s.core.readInFlight = true →
        exec .stepRead s = .next { s with
          core := { s.core with
            dataLatch := if s.core.halfCycle = 6#3 then s.pins.data else s.core.dataLatch
            readInFlight := decide (s.core.halfCycle ≠ 7#3) }
          pins := rowPins Config.hramWriteHc3 .read (region s.core.addressLatch) s.core.halfCycle s.core.addressLatch
            s.core.dataLatch s.pins
          stepResult := some (decide (s.core.halfCycle ≠ 7#3)) }) ∧
      (s.core.readInFlight = false →
        exec .stepRead s = .fault (.stepIdle { s with
          faultRecord := some { code := .stepIdle, command := .stepRead, halfCycle := s.core.halfCycle } })))

/-- R113: STEP_WRITE performs the write row of the current half-cycle and answers false at row 7, where it clears the flag; with no write in
flight it faults STEP_IDLE and changes nothing. -/
def Obligations.StepWritePerformsTheRowOrFaults : Prop :=
  ∀ s : State, s.faultRecord = none →
    ((s.core.writeInFlight = true →
        exec .stepWrite s = .next { s with
          core := { s.core with writeInFlight := decide (s.core.halfCycle ≠ 7#3) }
          pins := rowPins Config.hramWriteHc3 .write (region s.core.addressLatch) s.core.halfCycle s.core.addressLatch
            s.core.dataLatch s.pins
          stepResult := some (decide (s.core.halfCycle ≠ 7#3)) }) ∧
      (s.core.writeInFlight = false →
        exec .stepWrite s = .fault (.stepIdle { s with
          faultRecord := some { code := .stepIdle, command := .stepWrite, halfCycle := s.core.halfCycle } })))

/-! ## The rows of the half-cycle timing table -/

/-- R52, R53: the region of every address. -/
def Obligations.RegionsSplitTheAddressSpace : Prop :=
  ∀ a : Addr,
    (a.toNat ≤ 0x7FFF → region a = .rom) ∧ (0x8000 ≤ a.toNat ∧ a.toNat ≤ 0x9FFF → region a = .hramIo) ∧
      (0xA000 ≤ a.toNat ∧ a.toNat ≤ 0xFDFF → region a = .ram) ∧ (0xFE00 ≤ a.toNat → region a = .hramIo)

/-- R121: row 0, read and write, in every region. -/
def Obligations.RowZeroDeselectsAndAssertsRead : Prop :=
  ∀ s : State, s.faultRecord = none → s.core.halfCycle = 0#3 →
    (s.core.readInFlight = true → ∃ t, exec .stepRead s = .next t ∧ t.core = s.core ∧
      t.pins = { s.pins with writeStrobe := true, readStrobe := false, address := s.pins.address ||| 0x8000#16, chipSelect := true }) ∧
    (s.core.writeInFlight = true → ∃ t, exec .stepWrite s = .next t ∧ t.core = s.core ∧
      t.pins = { s.pins with writeStrobe := true, readStrobe := false, address := s.pins.address ||| 0x8000#16, chipSelect := true })

/-- R122: row 1 deasserts RD (read only) and places the low 15 address bits, in the ROM and RAM regions; in the HRAM_IO class it changes
nothing. -/
def Obligations.RowOnePlacesTheLowAddress : Prop :=
  ∀ s : State, s.faultRecord = none → s.core.halfCycle = 1#3 →
    (s.core.readInFlight = true → ∃ t, exec .stepRead s = .next t ∧ t.core = s.core ∧
      ((InRom s.core.addressLatch ∨ InRam s.core.addressLatch) → t.pins = { s.pins with
        readStrobe := true, address := (s.pins.address &&& 0x8000#16) ||| (s.core.addressLatch &&& 0x7FFF#16) }) ∧
      (InHramIoClass s.core.addressLatch → t.pins = s.pins)) ∧
    (s.core.writeInFlight = true → ∃ t, exec .stepWrite s = .next t ∧ t.core = s.core ∧
      ((InRom s.core.addressLatch ∨ InRam s.core.addressLatch) → t.pins = { s.pins with
        address := (s.pins.address &&& 0x8000#16) ||| (s.core.addressLatch &&& 0x7FFF#16) }) ∧
      (InHramIoClass s.core.addressLatch → t.pins = s.pins))

/-- R123: row 2 pulls A15 low for ROM and CS low for RAM, and changes nothing in the HRAM_IO class. -/
def Obligations.RowTwoSelectsTheRegion : Prop :=
  ∀ s : State, s.faultRecord = none → s.core.halfCycle = 2#3 →
    ∀ i : Instr, (i = .stepRead ∧ s.core.readInFlight = true ∨ i = .stepWrite ∧ s.core.writeInFlight = true) →
      ∃ t, exec i s = .next t ∧ t.core = s.core ∧
        (InRom s.core.addressLatch → t.pins = { s.pins with address := s.pins.address &&& 0x7FFF#16 }) ∧
        (InRam s.core.addressLatch → t.pins = { s.pins with chipSelect := false }) ∧
        (InHramIoClass s.core.addressLatch → t.pins = s.pins)

/-- R124: row 3 of a write pulls WR low and drives the byte; in the HRAM_IO class it does what HRAM_WRITE_HC3 says, for each of its values;
row 3 of a read changes nothing. -/
def Obligations.RowThreeCommitsTheWrite : Prop :=
  ∀ s : State, s.faultRecord = none → s.core.halfCycle = 3#3 →
    (s.core.readInFlight = true → ∃ t, exec .stepRead s = .next t ∧ t.core = s.core ∧ t.pins = s.pins) ∧
    (s.core.writeInFlight = true → ∃ t, exec .stepWrite s = .next t ∧ t.core = s.core ∧
      ((InRom s.core.addressLatch ∨ InRam s.core.addressLatch) →
        t.pins = { s.pins with writeStrobe := false, data := s.core.dataLatch }) ∧
      (InHramIoClass s.core.addressLatch →
        (Config.hramWriteHc3 = .full → t.pins = { s.pins with writeStrobe := false, data := s.core.dataLatch }) ∧
        (Config.hramWriteHc3 = .strobeOnly → t.pins = { s.pins with writeStrobe := false }) ∧
        (Config.hramWriteHc3 = .none → t.pins = s.pins)))

/-- R125: rows 4 and 5 change no pin. -/
def Obligations.RowsFourAndFiveWait : Prop :=
  ∀ s : State, s.faultRecord = none → (s.core.halfCycle = 4#3 ∨ s.core.halfCycle = 5#3) →
    ∀ i : Instr, (i = .stepRead ∧ s.core.readInFlight = true ∨ i = .stepWrite ∧ s.core.writeInFlight = true) →
      exec i s = .next { s with stepResult := some true }

/-- R126: row 6 of a read samples the data pins into the data latch; row 6 of a write pulls WR back to inactive. -/
def Obligations.RowSixSamplesOrReleasesWrite : Prop :=
  ∀ s : State, s.faultRecord = none → s.core.halfCycle = 6#3 →
    (s.core.readInFlight = true →
      exec .stepRead s = .next { s with core := { s.core with dataLatch := s.pins.data }, stepResult := some true }) ∧
    (s.core.writeInFlight = true →
      exec .stepWrite s = .next { s with pins := { s.pins with writeStrobe := true }, stepResult := some true })

/-- R127: row 7 changes no pin, clears the in-flight flag of its direction and answers false. -/
def Obligations.RowSevenCompletes : Prop :=
  ∀ s : State, s.faultRecord = none → s.core.halfCycle = 7#3 →
    (s.core.readInFlight = true →
      exec .stepRead s = .next { s with core := { s.core with readInFlight := false }, stepResult := some false }) ∧
    (s.core.writeInFlight = true →
      exec .stepWrite s = .next { s with core := { s.core with writeInFlight := false }, stepResult := some false })

/-- R131 (c): a second step in the same tick performs the same row again and gives the same state at rows 0 to 6; after row 7 it faults
STEP_IDLE. -/
def Obligations.SecondStepInATickRepeatsTheRow : Prop :=
  (∀ s t : State, exec .stepRead s = .next t →
      (s.core.halfCycle ≠ 7#3 → exec .stepRead t = .next t) ∧
      (s.core.halfCycle = 7#3 → exec .stepRead t = .fault (.stepIdle { t with
        faultRecord := some { code := .stepIdle, command := .stepRead, halfCycle := 7#3 } }))) ∧
    (∀ s t : State, exec .stepWrite s = .next t →
      (s.core.halfCycle ≠ 7#3 → exec .stepWrite t = .next t) ∧
      (s.core.halfCycle = 7#3 → exec .stepWrite t = .fault (.stepIdle { t with
        faultRecord := some { code := .stepIdle, command := .stepWrite, halfCycle := 7#3 } })))

/-! ## Whole transactions -/

/-- R130, R132, R126: a read in TEST stepped once per tick from half-cycle h stays in flight, and each step answers true, while fewer than 8 - h
steps are made; the (8 - h)-th completes it and answers false. Its result is the byte the environment drove before row 6, and a read first
stepped at half-cycle 7 keeps the old data latch. -/
def Obligations.SteppedReadCompletesAtRowSeven : Prop :=
  ∀ (s : State) (turns : List (Option Byte)), s.faultRecord = none → s.core.topState = .test → s.core.readInFlight = true →
    turns ≠ [] → s.core.halfCycle.toNat + turns.length ≤ 8 →
    ∃ t, runCommands (steppedTicks .stepRead turns) s = .next t ∧
      t.core.halfCycle.toNat = (s.core.halfCycle.toNat + turns.length) % 8 ∧
      t.core.readInFlight = decide (s.core.halfCycle.toNat + turns.length < 8) ∧
      t.stepResult = some (decide (s.core.halfCycle.toNat + turns.length < 8)) ∧
      t.core.addressLatch = s.core.addressLatch ∧ t.core.programCounter = s.core.programCounter ∧
      t.core.instructionLatch = s.core.instructionLatch ∧ t.handlerState = s.handlerState ∧
      (∀ e, s.core.halfCycle.toNat ≤ 6 → turns[6 - s.core.halfCycle.toNat]? = some (some e) → t.core.dataLatch = e) ∧
      (s.core.halfCycle.toNat = 7 ∨ s.core.halfCycle.toNat + turns.length ≤ 6 → t.core.dataLatch = s.core.dataLatch)

/-- R130, R132: a write in TEST stepped once per tick from half-cycle h completes on its (8 - h)-th step, and its address and byte stay
latched. -/
def Obligations.SteppedWriteCompletesAtRowSeven : Prop :=
  ∀ (s : State) (turns : List (Option Byte)), s.faultRecord = none → s.core.topState = .test → s.core.writeInFlight = true →
    turns ≠ [] → s.core.halfCycle.toNat + turns.length ≤ 8 →
    ∃ t, runCommands (steppedTicks .stepWrite turns) s = .next t ∧
      t.core.halfCycle.toNat = (s.core.halfCycle.toNat + turns.length) % 8 ∧
      t.core.writeInFlight = decide (s.core.halfCycle.toNat + turns.length < 8) ∧
      t.stepResult = some (decide (s.core.halfCycle.toNat + turns.length < 8)) ∧
      t.core.addressLatch = s.core.addressLatch ∧ t.core.dataLatch = s.core.dataLatch ∧
      t.core.programCounter = s.core.programCounter ∧ t.core.instructionLatch = s.core.instructionLatch ∧
      t.handlerState = s.handlerState

/-- R133: which select line a transaction begun at half-cycle 0 uses, after each of its rows: ROM pulls A15 low from row 2 and never CS, RAM
pulls CS low from row 2 and never A15, the HRAM_IO class neither. The environment may drive the data pins before each row. -/
def Obligations.OneSelectLinePerRegion : Prop :=
  ∀ (s : State) (a : Addr) (d : Byte) (turns : List (Option Byte)),
    s.faultRecord = none → s.core.topState = .test → s.core.readInFlight = false → s.core.writeInFlight = false →
    s.core.halfCycle = 0#3 → 1 ≤ turns.length → turns.length ≤ 8 →
    ∀ cs : List Command, (cs = .beginRead a :: steppedTicks .stepRead turns ∨ cs = .beginWrite a d :: steppedTicks .stepWrite turns) →
    ∃ t, runCommands cs s = .next t ∧
      (InRom a → t.pins.address.getLsbD 15 = decide (turns.length < 3) ∧ t.pins.chipSelect = true) ∧
      (InRam a → t.pins.chipSelect = decide (turns.length < 3) ∧ t.pins.address.getLsbD 15 = true) ∧
      (InHramIoClass a → t.pins.address.getLsbD 15 = true ∧ t.pins.chipSelect = true)

/-- R55: after row 2 of a transaction begun at half-cycle 0, at a ROM or RAM address, the pins show the latched address. -/
def Obligations.PinsShowTheAddressFromRowTwo : Prop :=
  ∀ (s : State) (a : Addr) (d : Byte) (turns : List (Option Byte)),
    s.faultRecord = none → s.core.topState = .test → s.core.readInFlight = false → s.core.writeInFlight = false →
    s.core.halfCycle = 0#3 → 3 ≤ turns.length → turns.length ≤ 8 → (InRom a ∨ InRam a) →
    ∀ cs : List Command, (cs = .beginRead a :: steppedTicks .stepRead turns ∨ cs = .beginWrite a d :: steppedTicks .stepWrite turns) →
    ∃ t, runCommands cs s = .next t ∧ t.pins.address = a

/-- R245, R124, R126, R246: after rows 0 to n - 1 of a write begun at half-cycle 0, with no device driving the data pins. At a ROM or RAM address
the byte is on the data pins from row 3, and WR is low exactly after rows 3, 4 and 5. At an address of the HRAM_IO class the same holds under
HRAM_WRITE_HC3 = FULL; under STROBE_ONLY the data pins keep their old value; under NONE WR also stays high. -/
def Obligations.WriteByteIsOnThePinsFromRowThreeToFive : Prop :=
  ∀ (s : State) (a : Addr) (d : Byte) (n : Nat),
    s.faultRecord = none → s.core.topState = .test → s.core.readInFlight = false → s.core.writeInFlight = false →
    s.core.halfCycle = 0#3 → 1 ≤ n → n ≤ 8 →
    ∃ t, runCommands (.beginWrite a d :: steppedTicks .stepWrite (List.replicate n none)) s = .next t ∧
      ((InRom a ∨ InRam a) → t.pins.data = (if 4 ≤ n then d else s.pins.data) ∧ t.pins.writeStrobe = decide (n < 4 ∨ 6 < n)) ∧
      (InHramIoClass a →
        (Config.hramWriteHc3 = .full →
          t.pins.data = (if 4 ≤ n then d else s.pins.data) ∧ t.pins.writeStrobe = decide (n < 4 ∨ 6 < n)) ∧
        (Config.hramWriteHc3 = .strobeOnly → t.pins.data = s.pins.data ∧ t.pins.writeStrobe = decide (n < 4 ∨ 6 < n)) ∧
        (Config.hramWriteHc3 = .none → t.pins.data = s.pins.data ∧ t.pins.writeStrobe = true))

/-- R241 (a) to (d): the levels a whole transaction begun at half-cycle 0 leaves: A15 low after ROM only, CS low after RAM only, RD low after a
write and after an HRAM_IO-class read, WR high. -/
def Obligations.PinLevelsLeftAfterATransaction : Prop :=
  ∀ (s : State) (a : Addr) (d : Byte) (turns : List (Option Byte)),
    s.faultRecord = none → s.core.topState = .test → s.core.readInFlight = false → s.core.writeInFlight = false →
    s.core.halfCycle = 0#3 → turns.length = 8 →
    (∃ t, runCommands (.beginRead a :: steppedTicks .stepRead turns) s = .next t ∧ t.pins.writeStrobe = true ∧
      (InRom a → t.pins.readStrobe = true ∧ t.pins.address.getLsbD 15 = false ∧ t.pins.chipSelect = true) ∧
      (InRam a → t.pins.readStrobe = true ∧ t.pins.address.getLsbD 15 = true ∧ t.pins.chipSelect = false) ∧
      (InHramIoClass a → t.pins.readStrobe = false ∧ t.pins.address.getLsbD 15 = true ∧ t.pins.chipSelect = true)) ∧
    (∃ t, runCommands (.beginWrite a d :: steppedTicks .stepWrite turns) s = .next t ∧ t.pins.writeStrobe = true ∧
      t.pins.readStrobe = false ∧
      (InRom a → t.pins.address.getLsbD 15 = false ∧ t.pins.chipSelect = true) ∧
      (InRam a → t.pins.address.getLsbD 15 = true ∧ t.pins.chipSelect = false) ∧
      (InHramIoClass a → t.pins.address.getLsbD 15 = true ∧ t.pins.chipSelect = true))

/-! ## The fetch/execute state machine -/

/-- A command listed for the outside agents is the next step, and with none listed the next step is a tick (the model's choice,
notes/assumptions/9.md). -/
def Obligations.StepRunsTheNextCommand : Prop :=
  ∀ s : State,
    (∀ c rest, s.commands = c :: rest → step s = exec c.toInstr { s with commands := rest }) ∧
      (s.commands = [] → step s = exec .tick s)

/-- R155, R157, R150: in EXECUTE a step with no command listed runs the instruction the latched byte decodes to, once, and then the rest of the
tick. That such a step is a tick, and that an opcode's row is one invocation of its handler, are the model's choices
(notes/assumptions/9.md, 11.md). -/
def Obligations.StepRunsTheLatchedInstruction : Prop :=
  ∀ (s : State) (i : Instr) (rest : List Byte), s.commands = [] → s.core.topState = .execute →
    decode [s.core.instructionLatch] = .ok (i, rest) →
    step s = finishExecuteTick (exec i s)

/-- R151 to R154, R153: a tick in FETCH begins a read at the program counter if none is in flight, performs its row, and at half-cycle 7
latches the opcode and enters EXECUTE. With a write in flight and no read it faults BEGIN_BUSY. -/
def Obligations.FetchTickRunsTheFetchAlone : Prop :=
  ∀ s : State, s.faultRecord = none → s.core.topState = .fetch →
    ((s.core.readInFlight = true ∨ s.core.writeInFlight = false) → exec .tick s = .next (afterFetchTick s)) ∧
    (s.core.readInFlight = false ∧ s.core.writeInFlight = true →
      exec .tick s = .fault (.beginBusy { s with
        faultRecord := some { code := .beginBusy, command := .beginRead, halfCycle := s.core.halfCycle } }))

/-- R155 to R159, R167, R168: a tick in EXECUTE runs the handler of the latched opcode once; on MORE_CYCLES it only advances the divider; on
FINAL_CYCLE it also runs the fetch, whoever began the read in flight; with the handler's write in flight the fetch faults BEGIN_BUSY; a
fault of the handler ends the tick. -/
def Obligations.ExecuteTickFollowsTheHandlersReply : Prop :=
  ∀ s : State, s.faultRecord = none → s.core.topState = .execute →
    (∀ t, exec (decodeOpcode s.core.instructionLatch) s = .next t →
      (t.handlerReply = some .moreCycles → exec .tick s = .next { t with
        core := { t.core with halfCycle := t.core.halfCycle + 1#3 }
        pins := { t.pins with phase := phaseOf (t.core.halfCycle + 1#3) } }) ∧
      (t.handlerReply = some .finalCycle → (t.core.readInFlight = true ∨ t.core.writeInFlight = false) →
        exec .tick s = .next (afterFetchTick t)) ∧
      (t.handlerReply = some .finalCycle → t.core.readInFlight = false ∧ t.core.writeInFlight = true →
        exec .tick s = .fault (.beginBusy { t with
          faultRecord := some { code := .beginBusy, command := .beginRead, halfCycle := t.core.halfCycle } }))) ∧
    (∀ f, exec (decodeOpcode s.core.instructionLatch) s = .fault f → exec .tick s = .fault f)

/-- R160: a tick in TEST advances the divider and does nothing else. -/
def Obligations.TestTickOnlyAdvances : Prop :=
  ∀ s : State, s.faultRecord = none → s.core.topState = .test →
    exec .tick s = .next { s with
      core := { s.core with halfCycle := s.core.halfCycle + 1#3 }
      pins := { s.pins with phase := phaseOf (s.core.halfCycle + 1#3) } }

/-- R165: the first fetch, from the reset state or a launch state (R235): tick 1 begins it at the program counter, the mode stays FETCH
through tick 7, tick 8 completes it with the byte the environment drove before row 6. -/
def Obligations.FirstFetchTakesEightTicks : Prop :=
  ∀ (s : State) (turns : List (Option Byte)), s.faultRecord = none → s.core.topState = .fetch →
    s.core.readInFlight = false → s.core.writeInFlight = false → s.core.halfCycle = 0#3 → 1 ≤ turns.length → turns.length ≤ 8 →
    ∃ t, runCommands (drivenTicks turns) s = .next t ∧
      t.core.programCounter = s.core.programCounter + 1#16 ∧ t.core.addressLatch = s.core.programCounter ∧
      t.core.halfCycle.toNat = turns.length % 8 ∧ t.core.readInFlight = decide (turns.length < 8) ∧
      t.core.writeInFlight = false ∧ t.handlerState = s.handlerState ∧ t.handlerReply = s.handlerReply ∧
      t.core.topState = (if turns.length = 8 then .execute else .fetch) ∧
      (turns.length < 8 → t.core.instructionLatch = s.core.instructionLatch) ∧
      (turns.length = 8 → ∀ e, turns[6]? = some (some e) → t.core.instructionLatch = e)

/-- R185, R166: from half-cycle 0, NOP's first tick begins the fetch of the next opcode, the instruction latch keeps NOP for 7 ticks, and the
8th tick completes the fetch with the byte the environment drove before row 6; the mode stays EXECUTE. -/
def Obligations.NopOverlapsTheNextFetch : Prop :=
  ∀ (s : State) (turns : List (Option Byte)), s.faultRecord = none → s.core.topState = .execute → s.core.instructionLatch = 0x00#8 →
    s.core.readInFlight = false → s.core.writeInFlight = false → s.core.halfCycle = 0#3 → 1 ≤ turns.length → turns.length ≤ 8 →
    ∃ t, runCommands (drivenTicks turns) s = .next t ∧
      t.core.topState = .execute ∧ t.core.programCounter = s.core.programCounter + 1#16 ∧
      t.core.addressLatch = s.core.programCounter ∧ t.core.halfCycle.toNat = turns.length % 8 ∧
      t.core.readInFlight = decide (turns.length < 8) ∧ t.core.writeInFlight = false ∧ t.handlerState = s.handlerState ∧
      t.handlerReply = some .finalCycle ∧ (turns.length < 8 → t.core.instructionLatch = 0x00#8) ∧
      (turns.length = 8 → ∀ e, turns[6]? = some (some e) → t.core.instructionLatch = e)

/-- R169: where a handler leaves nothing in flight and answers FINAL_CYCLE at half-cycle 7, the fetch is begun and completed in that
tick without sampling: the latch takes the data latch, and the program counter is incremented. -/
def Obligations.FetchBegunAtHalfCycleSevenDoesNotSample : Prop :=
  ∀ s t : State, s.faultRecord = none → s.core.topState = .execute → s.core.halfCycle = 7#3 →
    exec (decodeOpcode s.core.instructionLatch) s = .next t → t.handlerReply = some .finalCycle →
    t.core.readInFlight = false → t.core.writeInFlight = false →
    ∃ u, exec .tick s = .next u ∧ u.core.instructionLatch = t.core.dataLatch ∧
      u.core.programCounter = t.core.programCounter + 1#16 ∧ u.core.addressLatch = t.core.programCounter ∧
      u.core.readInFlight = false ∧ u.core.halfCycle = 0#3 ∧ u.core.topState = .execute

/-- R163: ENTER_TEST sets the mode and nothing else, in every state, with a transaction in flight or not; issued in TEST it changes nothing; and
only RESET leaves TEST. -/
def Obligations.EnterTestSetsTheModeAndOnlyResetLeavesIt : Prop :=
  (∀ s : State, s.faultRecord = none →
    exec .enterTest s = .next { s with core := { s.core with topState := .test } } ∧
      (s.core.topState = .test → exec .enterTest s = .next s)) ∧
    ∀ (i : Instr) (s t : State), s.core.topState = .test → exec i s = .next t → i ≠ .reset → t.core.topState = .test

/-- R164 (b): in TEST, HARNESS_SET writes the named field, and nothing else, for each of the nine fields the harness may write. It holds with a
transaction in flight too, where the model follows R164 and not R52's "The latch does not change while a transaction is in flight"
(notes/assumptions/19.md). -/
def Obligations.HarnessSetWritesTheNamedFieldInTest : Prop :=
  ∀ s : State, s.faultRecord = none → s.core.topState = .test →
    (∀ v, exec (.harnessSet (.programCounter v)) s = .next { s with core := { s.core with programCounter := v } }) ∧
    (∀ v, exec (.harnessSet (.instructionLatch v)) s = .next { s with core := { s.core with instructionLatch := v } }) ∧
    (∀ v, exec (.harnessSet (.addressLatch v)) s = .next { s with core := { s.core with addressLatch := v } }) ∧
    (∀ v, exec (.harnessSet (.dataLatch v)) s = .next { s with core := { s.core with dataLatch := v } }) ∧
    (∀ v, exec (.harnessSet (.pinAddress v)) s = .next { s with pins := { s.pins with address := v } }) ∧
    (∀ v, exec (.harnessSet (.pinData v)) s = .next { s with pins := { s.pins with data := v } }) ∧
    (∀ v, exec (.harnessSet (.pinReadStrobe v)) s = .next { s with pins := { s.pins with readStrobe := v } }) ∧
    (∀ v, exec (.harnessSet (.pinWriteStrobe v)) s = .next { s with pins := { s.pins with writeStrobe := v } }) ∧
    (∀ v, exec (.harnessSet (.pinChipSelect v)) s = .next { s with pins := { s.pins with chipSelect := v } })

/-- R164, R205 (b): HARNESS_SET has no step outside TEST, nor for a field the harness may not write. -/
def Obligations.HarnessSetIsRefusedOutsideItsContract : Prop :=
  ∀ (s : State) (w : HarnessWrite), s.faultRecord = none →
    (s.core.topState ≠ .test → exec (.harnessSet w) s = .refused .harnessOutsideTest) ∧
    (s.core.topState = .test → wellFormed (.harnessSet w) = false → exec (.harnessSet w) s = .refused .harnessFieldForbidden)

/-- R61 (b): DRIVE_DATA writes the data pins and nothing else, in every mode. -/
def Obligations.DriveDataWritesTheDataPinsAlone : Prop :=
  ∀ (d : Byte) (s : State), s.faultRecord = none → exec (.driveData d) s = .next { s with pins := { s.pins with data := d } }

/-! ## The dispatch table and the handlers -/

/-- R185: NOP answers FINAL_CYCLE and changes nothing else. -/
def Obligations.NopAnswersFinalCycleAndChangesNothing : Prop :=
  ∀ s : State, s.faultRecord = none → exec .nop s = .next { s with handlerReply := some .finalCycle }

/-- R186, R187: OP_01 to OP_FF (every constructor op01 to opFF). Where an answer of the external handlers is listed and its effects do not
fault, the opcode runs: as the unimplemented-opcode handler if it is in UNIMPL, which with UNIMPL_MORE = 0 answers FINAL_CYCLE and touches only
its own count, and otherwise as that answer, used up. The list of answers, an answer as a list of effects, and the count with its restart at
half-cycle 7 are the model's (notes/assumptions/6.md, 8.md, 5.md). -/
def Obligations.OpcodesRunTheirHandler : Prop :=
  ∀ (i : Instr) (op : Byte) (s t : State) (r : HandlerReply) (rest : List HandlerReply),
    i.opcode = some op → op ≠ 0x00#8 → s.faultRecord = none → s.handlerReplies = r :: rest →
    runActions r.actions { s with handlerReplies := rest } = .ok t →
    exec i s = .next (if Config.unimpl op then afterUnimplemented s else { t with handlerReply := some r.status })

/-- R183 (b), (c), (d), with R110 to R113: OP_01 to OP_FF (every constructor op01 to opFF), not in UNIMPL, do what the listed answer does: with
nothing in flight begin a read or a write, alone or stepping it at once; step a read or a write already in flight; write the program counter;
write any value of the open type of the handlers' private state; or nothing. Nothing else changes. That answers are listed, and the
count of an opcode in UNIMPL, are the model's choices (notes/assumptions/6.md, 5.md). -/
def Obligations.HandlersReadWriteJumpAndKeepPrivateState : Prop :=
  ∀ (i : Instr) (op : Byte) (s : State) (status : Status) (rest : List HandlerReply),
    i.opcode = some op → op ≠ 0x00#8 → s.faultRecord = none →
    (∀ a, s.core.readInFlight = false ∧ s.core.writeInFlight = false →
      s.handlerReplies = { actions := [.beginRead a], status := status } :: rest →
      exec i s = .next (if Config.unimpl op then afterUnimplemented s else { s with
        core := { s.core with addressLatch := a, readInFlight := true }
        handlerReplies := rest
        handlerReply := some status })) ∧
    (∀ a, s.core.readInFlight = false ∧ s.core.writeInFlight = false →
      s.handlerReplies = { actions := [.beginRead a, .stepRead], status := status } :: rest →
      exec i s = .next (if Config.unimpl op then afterUnimplemented s else { s with
        core := { s.core with
          addressLatch := a
          dataLatch := if s.core.halfCycle = 6#3 then s.pins.data else s.core.dataLatch
          readInFlight := decide (s.core.halfCycle ≠ 7#3) }
        pins := rowPins Config.hramWriteHc3 .read (region a) s.core.halfCycle a s.core.dataLatch s.pins
        handlerReplies := rest
        handlerReply := some status })) ∧
    (s.core.readInFlight = true →
      s.handlerReplies = { actions := [.stepRead], status := status } :: rest →
      exec i s = .next (if Config.unimpl op then afterUnimplemented s else { s with
        core := { s.core with
          dataLatch := if s.core.halfCycle = 6#3 then s.pins.data else s.core.dataLatch
          readInFlight := decide (s.core.halfCycle ≠ 7#3) }
        pins := rowPins Config.hramWriteHc3 .read (region s.core.addressLatch) s.core.halfCycle s.core.addressLatch s.core.dataLatch s.pins
        handlerReplies := rest
        handlerReply := some status })) ∧
    (∀ a d, s.core.readInFlight = false ∧ s.core.writeInFlight = false →
      s.handlerReplies = { actions := [.beginWrite a d], status := status } :: rest →
      exec i s = .next (if Config.unimpl op then afterUnimplemented s else { s with
        core := { s.core with addressLatch := a, dataLatch := d, writeInFlight := true }
        handlerReplies := rest
        handlerReply := some status })) ∧
    (∀ a d, s.core.readInFlight = false ∧ s.core.writeInFlight = false →
      s.handlerReplies = { actions := [.beginWrite a d, .stepWrite], status := status } :: rest →
      exec i s = .next (if Config.unimpl op then afterUnimplemented s else { s with
        core := { s.core with addressLatch := a, dataLatch := d, writeInFlight := decide (s.core.halfCycle ≠ 7#3) }
        pins := rowPins Config.hramWriteHc3 .write (region a) s.core.halfCycle a d s.pins
        handlerReplies := rest
        handlerReply := some status })) ∧
    (s.core.writeInFlight = true →
      s.handlerReplies = { actions := [.stepWrite], status := status } :: rest →
      exec i s = .next (if Config.unimpl op then afterUnimplemented s else { s with
        core := { s.core with writeInFlight := decide (s.core.halfCycle ≠ 7#3) }
        pins := rowPins Config.hramWriteHc3 .write (region s.core.addressLatch) s.core.halfCycle s.core.addressLatch s.core.dataLatch s.pins
        handlerReplies := rest
        handlerReply := some status })) ∧
    (∀ v, s.handlerReplies = { actions := [.setProgramCounter v], status := status } :: rest →
      exec i s = .next (if Config.unimpl op then afterUnimplemented s else { s with
        core := { s.core with programCounter := v }
        handlerReplies := rest
        handlerReply := some status })) ∧
    (∀ v, s.handlerReplies = { actions := [.setOwn v], status := status } :: rest →
      exec i s = .next (if Config.unimpl op then afterUnimplemented s else { s with
        handlerState := { s.handlerState with own := v }
        handlerReplies := rest
        handlerReply := some status })) ∧
    (s.handlerReplies = { actions := [], status := status } :: rest →
      exec i s = .next (if Config.unimpl op then afterUnimplemented s else { s with
        handlerReplies := rest
        handlerReply := some status }))

/-- R183 (b), R201, R202: a begin of a handler of OP_01 to OP_FF, not in UNIMPL, with a transaction in flight faults BEGIN_BUSY, and a step with no
transaction of its direction in flight faults STEP_IDLE; the fault ends the invocation, whatever effects would follow. The listed answers are the
model's choice, and so is the count of an opcode in UNIMPL (notes/assumptions/6.md, 5.md). -/
def Obligations.HandlerFaultsEndTheInvocation : Prop :=
  ∀ (i : Instr) (op : Byte) (s : State) (status : Status) (more : List HandlerAction) (rest : List HandlerReply),
    i.opcode = some op → op ≠ 0x00#8 → s.faultRecord = none →
    (∀ a, (s.core.readInFlight = true ∨ s.core.writeInFlight = true) →
      s.handlerReplies = { actions := .beginRead a :: more, status := status } :: rest →
      exec i s = if Config.unimpl op then .next (afterUnimplemented s) else .fault (.beginBusy { s with
        handlerReplies := rest
        faultRecord := some { code := .beginBusy, command := .beginRead, halfCycle := s.core.halfCycle } })) ∧
    (∀ a d, (s.core.readInFlight = true ∨ s.core.writeInFlight = true) →
      s.handlerReplies = { actions := .beginWrite a d :: more, status := status } :: rest →
      exec i s = if Config.unimpl op then .next (afterUnimplemented s) else .fault (.beginBusy { s with
        handlerReplies := rest
        faultRecord := some { code := .beginBusy, command := .beginWrite, halfCycle := s.core.halfCycle } })) ∧
    (s.core.readInFlight = false →
      s.handlerReplies = { actions := .stepRead :: more, status := status } :: rest →
      exec i s = if Config.unimpl op then .next (afterUnimplemented s) else .fault (.stepIdle { s with
        handlerReplies := rest
        faultRecord := some { code := .stepIdle, command := .stepRead, halfCycle := s.core.halfCycle } })) ∧
    (s.core.writeInFlight = false →
      s.handlerReplies = { actions := .stepWrite :: more, status := status } :: rest →
      exec i s = if Config.unimpl op then .next (afterUnimplemented s) else .fault (.stepIdle { s with
        handlerReplies := rest
        faultRecord := some { code := .stepIdle, command := .stepWrite, halfCycle := s.core.halfCycle } }))

/-- R182, R9, R202: the effects of an invocation of OP_01 to OP_FF, not in UNIMPL, happen in order. An answer with effects a, then more, is the
answer with a alone and then, from the state that leaves, the answer with the rest; a fault of the first ends it. The listed answers and the kept
reply are the model's choices, and so is the count of an opcode in UNIMPL (notes/assumptions/6.md, 11.md, 5.md). -/
def Obligations.HandlerEffectsHappenInOrder : Prop :=
  ∀ (i : Instr) (op : Byte) (s : State) (status : Status) (a : HandlerAction) (more : List HandlerAction) (rest : List HandlerReply),
    i.opcode = some op → op ≠ 0x00#8 → s.faultRecord = none →
    s.handlerReplies = { actions := a :: more, status := status } :: rest →
    exec i s =
      if Config.unimpl op then .next (afterUnimplemented s)
      else match exec i { s with handlerReplies := { actions := [a], status := status } :: rest } with
        | .next u => exec i { u with
            handlerReply := s.handlerReply
            handlerReplies := { actions := more, status := status } :: rest }
        | .fault f => .fault f
        | .refused r => .refused r

/-- R7, R28, R182: handlers that keep what they keep in values of the open type. For every type H with a code in the open type (the open type itself,
with enc and dec the identity, is one), and every handler over H, an invocation of OP_01 to OP_FF, not in UNIMPL, that answers as this handler, in a
state that holds the code of a private state h, acts on the block as the handler does, and leaves the code of the private state the handler leaves;
where an effect faults, it faults with the same code, core, pins and fault record. True for every value of the parameter HandlerState. That State
lists answers, and the count of an opcode in UNIMPL, are the model's choices (notes/assumptions/6.md, 5.md). -/
def Obligations.HandlersOverAnyPrivateStateRun : Prop :=
  ∀ (H : Type) (enc : H → PrivateState) (dec : PrivateState → H), (∀ h, dec (enc h) = h) →
  ∀ (handler : HandlerOver H) (hs : HandlerStateOver H) (i : Instr) (op : Byte) (s : State) (rest : List HandlerReply),
    i.opcode = some op → op ≠ 0x00#8 → s.faultRecord = none → s.handlerState = mapHandlerState enc hs →
    s.handlerReplies = carryHandler enc dec handler s.core s.pins s.handlerState :: rest →
    let answer := handler s.core s.pins hs
    (∀ t, runActions (blockActions answer.actions) { s with handlerReplies := rest } = .ok t →
      exec i s = .next (if Config.unimpl op then afterUnimplemented s else { t with
        handlerState := { unimplCount := hs.unimplCount, own := enc (ownAfter hs.own answer.actions) }
        handlerReply := some answer.status })) ∧
    (∀ f, runActions (blockActions answer.actions) { s with handlerReplies := rest } = .error f →
      if Config.unimpl op then exec i s = .next (afterUnimplemented s)
      else ∃ g, exec i s = .fault g ∧ g.code = f.code ∧ g.left.core = f.left.core ∧ g.left.pins = f.left.pins ∧
        g.left.faultRecord = f.left.faultRecord)

/-- R182, R187: with no answer listed, the open parameter DISPATCH answers for an opcode OP_01 to OP_FF not in UNIMPL, given the core, the pins
and the handlers' state; a fault of one of its effects is the opcode's fault. True for every value of UNIMPL and DISPATCH. That listed answers come
first, that an answer is a list of effects, and the count of an opcode in UNIMPL are the model's (notes/assumptions/6.md, 8.md, 5.md). -/
def Obligations.DispatchAnswersWhereNoneIsListed : Prop :=
  ∀ (i : Instr) (op : Byte) (s : State), i.opcode = some op → op ≠ 0x00#8 → s.faultRecord = none → s.handlerReplies = [] →
    exec i s =
      if Config.unimpl op then .next (afterUnimplemented s)
      else match runActions (Config.dispatch op s.core s.pins s.handlerState).actions s with
        | .ok t => .next { t with handlerReply := some (Config.dispatch op s.core s.pins s.handlerState).status }
        | .error f => .fault f

/-- R186: one invocation of the unimplemented-opcode handler, for every value of UNIMPL_MORE: MORE_CYCLES while the count of the instance is at
most UNIMPL_MORE, FINAL_CYCLE afterwards; nothing else changes but the count. That the count stands in a field of its own and starts again in the
FINAL_CYCLE invocation at half-cycle 7 is the model's choice (notes/assumptions/5.md). -/
def Obligations.UnimplementedHandlerCountsItsInstance : Prop :=
  ∀ (more : Nat) (s : State),
    invokeUnimplemented more s = { s with
      handlerState := { s.handlerState with
        unimplCount :=
          if more < s.handlerState.unimplCount + 1 ∧ s.core.halfCycle = 7#3 then 0 else s.handlerState.unimplCount + 1 }
      handlerReply := some (if s.handlerState.unimplCount + 1 ≤ more then .moreCycles else .finalCycle) }

/-- R183, R36: the frame of every opcode: a handler invocation never changes the instruction latch, the half-cycle, the mode, the phase or
the fault record. The conjuncts on the model's own fields are its choices: stepResult (notes/assumptions/12.md), commands (9.md), draws (2.md), and
the kept handlerReply (11.md). -/
def Obligations.HandlersKeepToTheirInterface : Prop :=
  ∀ (i : Instr) (s t : State), i.opcode ≠ none → exec i s = .next t →
    t.core.instructionLatch = s.core.instructionLatch ∧ t.core.halfCycle = s.core.halfCycle ∧
      t.core.topState = s.core.topState ∧ t.pins.phase = s.pins.phase ∧ t.faultRecord = s.faultRecord ∧
      t.stepResult = s.stepResult ∧ t.commands = s.commands ∧ t.draws = s.draws ∧ t.handlerReply ≠ none

/-! ## Encoding -/

/-- R70, R71: the decoder gives back every instruction that has an encoding, and leaves the bytes after it. -/
def Obligations.DecodeOfEncodeIsTheInstruction : Prop :=
  ∀ (i : Instr) (rest : List Byte), i.opcode ≠ none → decode (encode i ++ rest) = .ok (i, rest)

/-- R71, R77, R181, R188: every byte selects an instruction, whose encoding is that byte, whatever follows; only an empty list of bytes is
rejected. -/
def Obligations.EveryByteSelectsItsOwnRow : Prop :=
  (∀ (b : Byte) (rest : List Byte), ∃ i, decode (b :: rest) = .ok (i, rest) ∧ encode i = [b] ∧ wellFormed i = true) ∧
    decode [] = .error .noByte

/-- R70, R76: bytes written out from the table decode to their rows. -/
def Obligations.SampleOpcodeBytesDecode : Prop :=
  decode [0b00000000#8] = .ok (.nop, []) ∧ decode [0b00000001#8] = .ok (.op01, []) ∧
    decode [0b00111110#8, 0x55#8] = .ok (.op3E, [0x55#8]) ∧ decode [0b01110110#8] = .ok (.op76, []) ∧
    decode [0b11000011#8, 0x50#8, 0x01#8] = .ok (.opC3, [0x50#8, 0x01#8]) ∧ decode [0b11001011#8] = .ok (.opCB, []) ∧
    decode [0b11111111#8] = .ok (.opFF, [])

/-! ## Whole-machine rules -/

/-- R41: the invariant holds at power-on. -/
def Obligations.InvariantHoldsAtPowerOn : Prop := State.reset.Inv ∧ State.reset.faultRecord = none

/-- R41: every step keeps the invariant, and no fault is recorded in a state a step answers. -/
def Obligations.EveryStepKeepsTheInvariant : Prop :=
  ∀ s t : State, s.Inv → step s = .next t → t.Inv ∧ t.faultRecord = none

/-- R27, R161, R209: the only changes of mode: RESET to FETCH, ENTER_TEST to TEST, and the tick at half-cycle 7 that completes the fetch in
FETCH to EXECUTE. -/
def Obligations.ModeChangesOnlyAsTheRulesSay : Prop :=
  ∀ (i : Instr) (s t : State), exec i s = .next t → t.core.topState ≠ s.core.topState →
    (i = .reset ∧ t.core.topState = .fetch) ∨ (i = .enterTest ∧ t.core.topState = .test) ∨
      (i = .tick ∧ s.core.topState = .fetch ∧ s.core.halfCycle = 7#3 ∧ t.core.topState = .execute)

/-- R231, R58: no instruction but RESET ends a transaction before half-cycle 7. -/
def Obligations.OnlyResetEndsATransactionEarly : Prop :=
  ∀ (i : Instr) (s t : State), exec i s = .next t → i ≠ .reset → s.core.halfCycle ≠ 7#3 →
    (s.core.readInFlight = true → t.core.readInFlight = true) ∧ (s.core.writeInFlight = true → t.core.writeInFlight = true)

/-- R36: who may write each field, as a frame over all instructions. A handler writes inside its opcode's row or inside a tick in EXECUTE; the
fetch writes inside a tick in FETCH or EXECUTE; the harness writes in TEST. -/
def Obligations.FieldsChangeOnlyByTheirWriters : Prop :=
  ∀ (i : Instr) (s t : State), exec i s = .next t →
    let harness := (∃ w, i = .harnessSet w) ∧ s.core.topState = .test
    let handler := i.opcode ≠ none ∨ (i = .tick ∧ s.core.topState = .execute)
    let fetch := i = .tick ∧ s.core.topState ≠ .test
    let steps := i = .stepRead ∨ i = .stepWrite
    let h := s.core.halfCycle
    (t.core.programCounter ≠ s.core.programCounter → fetch ∨ handler ∨ i = .reset ∨ harness) ∧
    (t.core.instructionLatch ≠ s.core.instructionLatch → (fetch ∧ h = 7#3) ∨ i = .reset ∨ harness) ∧
    (t.core.addressLatch ≠ s.core.addressLatch →
      fetch ∨ handler ∨ (∃ a, i = .beginRead a) ∨ (∃ a d, i = .beginWrite a d) ∨ i = .reset ∨ harness) ∧
    (t.core.dataLatch ≠ s.core.dataLatch →
      (fetch ∧ h = 6#3) ∨ handler ∨ (i = .stepRead ∧ h = 6#3) ∨ (∃ a d, i = .beginWrite a d) ∨ i = .reset ∨ harness) ∧
    (t.core.halfCycle ≠ s.core.halfCycle → i = .tick ∨ i = .advance ∨ i = .reset) ∧
    (t.core.readInFlight ≠ s.core.readInFlight →
      fetch ∨ handler ∨ (∃ a, i = .beginRead a) ∨ (i = .stepRead ∧ h = 7#3) ∨ i = .reset) ∧
    (t.core.writeInFlight ≠ s.core.writeInFlight →
      handler ∨ (∃ a d, i = .beginWrite a d) ∨ (i = .stepWrite ∧ h = 7#3) ∨ i = .reset) ∧
    (t.core.topState ≠ s.core.topState →
      (i = .tick ∧ s.core.topState = .fetch ∧ h = 7#3) ∨ i = .enterTest ∨ i = .reset) ∧
    (t.pins.address ≠ s.pins.address →
      ((fetch ∨ handler ∨ steps) ∧ (h = 0#3 ∨ h = 1#3 ∨ h = 2#3)) ∨ i = .reset ∨ harness) ∧
    (t.pins.data ≠ s.pins.data →
      ((handler ∨ i = .stepWrite) ∧ h = 3#3) ∨ (∃ d, i = .driveData d) ∨ i = .reset ∨ harness) ∧
    (t.pins.readStrobe ≠ s.pins.readStrobe →
      ((fetch ∨ handler ∨ steps) ∧ (h = 0#3 ∨ h = 1#3)) ∨ i = .reset ∨ harness) ∧
    (t.pins.writeStrobe ≠ s.pins.writeStrobe →
      ((fetch ∨ handler ∨ steps) ∧ (h = 0#3 ∨ h = 3#3 ∨ h = 6#3)) ∨ i = .reset ∨ harness) ∧
    (t.pins.chipSelect ≠ s.pins.chipSelect →
      ((fetch ∨ handler ∨ steps) ∧ (h = 0#3 ∨ h = 2#3)) ∨ i = .reset ∨ harness) ∧
    (t.pins.phase ≠ s.pins.phase → i = .tick ∨ i = .advance ∨ i = .reset)

/-- R28, R182: the handlers' private state is written only by handlers: a command that invokes none (every one but a tick in EXECUTE; the opcode
rows are handlers) leaves it as it is. -/
def Obligations.HandlerStateIsWrittenOnlyByHandlers : Prop :=
  ∀ (i : Instr) (s t : State), exec i s = .next t → i.opcode = none → (i = .tick → s.core.topState ≠ .execute) →
    t.handlerState = s.handlerState

/-! ## Faults -/

/-- R201, R202: whatever instruction faults, the record holds the fault's code, a command that can raise it and the half-cycle at which it was
raised; the divider has not advanced; and the flags are as the code says. -/
def Obligations.FaultsRecordTheirCauseAndDoNotAdvance : Prop :=
  ∀ (i : Instr) (s : State) (f : Fault), exec i s = .fault f →
    f.left.core.halfCycle = s.core.halfCycle ∧ f.left.pins.phase = s.pins.phase ∧
    ∃ command, f.left.faultRecord = some { code := f.code, command := command, halfCycle := s.core.halfCycle } ∧
      (f.code = .beginBusy → (command = .beginRead ∨ command = .beginWrite) ∧
        (f.left.core.readInFlight = true ∨ f.left.core.writeInFlight = true)) ∧
      (f.code = .stepIdle → (command = .stepRead ∧ f.left.core.readInFlight = false) ∨
        (command = .stepWrite ∧ f.left.core.writeInFlight = false))

/-- R202, R29: once the fault record holds a code no command runs, RESET included. -/
def Obligations.NoCommandRunsAfterAFault : Prop :=
  ∀ (i : Instr) (s : State) (f : FaultRecord), s.faultRecord = some f →
    exec i s = .refused .afterFault ∧ step s = .refused .afterFault
end

