-- ==== Sys2Proof/Laws/State.lean ====
section
/-! SUPPORT. The types HandlerState can be, and what each update of one field of State leaves in every field: one lemma per field per update, true
by rfl. -/

namespace Sys2Proof.Machine

/-- R7, R28: HandlerState is open. Every countable type, with any value of it at power-on, is a type the parameters of HandlerState can give,
up to the names of its values. -/
theorem exists_handlerTypeOf (H : Type) [Countable H] (atPowerOn : H) :
    ∃ (start : List Byte) (legal : List Byte → Bool) (names : H ≃ HandlerTypeOf start legal), names atPowerOn = ⟨start, .inl rfl⟩ := by
  classical
  obtain ⟨number, hnumber⟩ := exists_injective_nat H
  have code_injective : Function.Injective fun h => List.replicate (number h) (0x00#8 : Byte) :=
    fun a b hab => hnumber (by simpa using congrArg List.length hab)
  refine ⟨List.replicate (number atPowerOn) 0x00#8, fun code => decide (∃ h, List.replicate (number h) 0x00#8 = code),
    Equiv.ofBijective (fun h => ⟨List.replicate (number h) 0x00#8, .inr (by simp)⟩)
      ⟨fun _ _ hab => code_injective (congrArg HandlerTypeOf.code hab), ?_⟩, rfl⟩
  rintro ⟨_, rfl | legal⟩
  · exact ⟨atPowerOn, rfl⟩
  · obtain ⟨h, rfl⟩ := of_decide_eq_true legal
    exact ⟨h, rfl⟩

variable (s : State)

@[simp] theorem State.setProgramCounter_core_programCounter (v : Addr) : (s.setProgramCounter v).core.programCounter = v := rfl
@[simp] theorem State.setProgramCounter_core_instructionLatch (v : Addr) : (s.setProgramCounter v).core.instructionLatch = s.core.instructionLatch := rfl
@[simp] theorem State.setProgramCounter_core_addressLatch (v : Addr) : (s.setProgramCounter v).core.addressLatch = s.core.addressLatch := rfl
@[simp] theorem State.setProgramCounter_core_dataLatch (v : Addr) : (s.setProgramCounter v).core.dataLatch = s.core.dataLatch := rfl
@[simp] theorem State.setProgramCounter_core_halfCycle (v : Addr) : (s.setProgramCounter v).core.halfCycle = s.core.halfCycle := rfl
@[simp] theorem State.setProgramCounter_core_readInFlight (v : Addr) : (s.setProgramCounter v).core.readInFlight = s.core.readInFlight := rfl
@[simp] theorem State.setProgramCounter_core_writeInFlight (v : Addr) : (s.setProgramCounter v).core.writeInFlight = s.core.writeInFlight := rfl
@[simp] theorem State.setProgramCounter_core_topState (v : Addr) : (s.setProgramCounter v).core.topState = s.core.topState := rfl
@[simp] theorem State.setProgramCounter_pins (v : Addr) : (s.setProgramCounter v).pins = s.pins := rfl
@[simp] theorem State.setProgramCounter_handlerState (v : Addr) : (s.setProgramCounter v).handlerState = s.handlerState := rfl
@[simp] theorem State.setProgramCounter_faultRecord (v : Addr) : (s.setProgramCounter v).faultRecord = s.faultRecord := rfl
@[simp] theorem State.setProgramCounter_handlerReply (v : Addr) : (s.setProgramCounter v).handlerReply = s.handlerReply := rfl
@[simp] theorem State.setProgramCounter_stepResult (v : Addr) : (s.setProgramCounter v).stepResult = s.stepResult := rfl
@[simp] theorem State.setProgramCounter_handlerReplies (v : Addr) : (s.setProgramCounter v).handlerReplies = s.handlerReplies := rfl
@[simp] theorem State.setProgramCounter_commands (v : Addr) : (s.setProgramCounter v).commands = s.commands := rfl
@[simp] theorem State.setProgramCounter_draws (v : Addr) : (s.setProgramCounter v).draws = s.draws := rfl

@[simp] theorem State.setInstructionLatch_core_programCounter (v : Byte) : (s.setInstructionLatch v).core.programCounter = s.core.programCounter := rfl
@[simp] theorem State.setInstructionLatch_core_instructionLatch (v : Byte) : (s.setInstructionLatch v).core.instructionLatch = v := rfl
@[simp] theorem State.setInstructionLatch_core_addressLatch (v : Byte) : (s.setInstructionLatch v).core.addressLatch = s.core.addressLatch := rfl
@[simp] theorem State.setInstructionLatch_core_dataLatch (v : Byte) : (s.setInstructionLatch v).core.dataLatch = s.core.dataLatch := rfl
@[simp] theorem State.setInstructionLatch_core_halfCycle (v : Byte) : (s.setInstructionLatch v).core.halfCycle = s.core.halfCycle := rfl
@[simp] theorem State.setInstructionLatch_core_readInFlight (v : Byte) : (s.setInstructionLatch v).core.readInFlight = s.core.readInFlight := rfl
@[simp] theorem State.setInstructionLatch_core_writeInFlight (v : Byte) : (s.setInstructionLatch v).core.writeInFlight = s.core.writeInFlight := rfl
@[simp] theorem State.setInstructionLatch_core_topState (v : Byte) : (s.setInstructionLatch v).core.topState = s.core.topState := rfl
@[simp] theorem State.setInstructionLatch_pins (v : Byte) : (s.setInstructionLatch v).pins = s.pins := rfl
@[simp] theorem State.setInstructionLatch_handlerState (v : Byte) : (s.setInstructionLatch v).handlerState = s.handlerState := rfl
@[simp] theorem State.setInstructionLatch_faultRecord (v : Byte) : (s.setInstructionLatch v).faultRecord = s.faultRecord := rfl
@[simp] theorem State.setInstructionLatch_handlerReply (v : Byte) : (s.setInstructionLatch v).handlerReply = s.handlerReply := rfl
@[simp] theorem State.setInstructionLatch_stepResult (v : Byte) : (s.setInstructionLatch v).stepResult = s.stepResult := rfl
@[simp] theorem State.setInstructionLatch_handlerReplies (v : Byte) : (s.setInstructionLatch v).handlerReplies = s.handlerReplies := rfl
@[simp] theorem State.setInstructionLatch_commands (v : Byte) : (s.setInstructionLatch v).commands = s.commands := rfl
@[simp] theorem State.setInstructionLatch_draws (v : Byte) : (s.setInstructionLatch v).draws = s.draws := rfl

@[simp] theorem State.setAddressLatch_core_programCounter (v : Addr) : (s.setAddressLatch v).core.programCounter = s.core.programCounter := rfl
@[simp] theorem State.setAddressLatch_core_instructionLatch (v : Addr) : (s.setAddressLatch v).core.instructionLatch = s.core.instructionLatch := rfl
@[simp] theorem State.setAddressLatch_core_addressLatch (v : Addr) : (s.setAddressLatch v).core.addressLatch = v := rfl
@[simp] theorem State.setAddressLatch_core_dataLatch (v : Addr) : (s.setAddressLatch v).core.dataLatch = s.core.dataLatch := rfl
@[simp] theorem State.setAddressLatch_core_halfCycle (v : Addr) : (s.setAddressLatch v).core.halfCycle = s.core.halfCycle := rfl
@[simp] theorem State.setAddressLatch_core_readInFlight (v : Addr) : (s.setAddressLatch v).core.readInFlight = s.core.readInFlight := rfl
@[simp] theorem State.setAddressLatch_core_writeInFlight (v : Addr) : (s.setAddressLatch v).core.writeInFlight = s.core.writeInFlight := rfl
@[simp] theorem State.setAddressLatch_core_topState (v : Addr) : (s.setAddressLatch v).core.topState = s.core.topState := rfl
@[simp] theorem State.setAddressLatch_pins (v : Addr) : (s.setAddressLatch v).pins = s.pins := rfl
@[simp] theorem State.setAddressLatch_handlerState (v : Addr) : (s.setAddressLatch v).handlerState = s.handlerState := rfl
@[simp] theorem State.setAddressLatch_faultRecord (v : Addr) : (s.setAddressLatch v).faultRecord = s.faultRecord := rfl
@[simp] theorem State.setAddressLatch_handlerReply (v : Addr) : (s.setAddressLatch v).handlerReply = s.handlerReply := rfl
@[simp] theorem State.setAddressLatch_stepResult (v : Addr) : (s.setAddressLatch v).stepResult = s.stepResult := rfl
@[simp] theorem State.setAddressLatch_handlerReplies (v : Addr) : (s.setAddressLatch v).handlerReplies = s.handlerReplies := rfl
@[simp] theorem State.setAddressLatch_commands (v : Addr) : (s.setAddressLatch v).commands = s.commands := rfl
@[simp] theorem State.setAddressLatch_draws (v : Addr) : (s.setAddressLatch v).draws = s.draws := rfl

@[simp] theorem State.setDataLatch_core_programCounter (v : Byte) : (s.setDataLatch v).core.programCounter = s.core.programCounter := rfl
@[simp] theorem State.setDataLatch_core_instructionLatch (v : Byte) : (s.setDataLatch v).core.instructionLatch = s.core.instructionLatch := rfl
@[simp] theorem State.setDataLatch_core_addressLatch (v : Byte) : (s.setDataLatch v).core.addressLatch = s.core.addressLatch := rfl
@[simp] theorem State.setDataLatch_core_dataLatch (v : Byte) : (s.setDataLatch v).core.dataLatch = v := rfl
@[simp] theorem State.setDataLatch_core_halfCycle (v : Byte) : (s.setDataLatch v).core.halfCycle = s.core.halfCycle := rfl
@[simp] theorem State.setDataLatch_core_readInFlight (v : Byte) : (s.setDataLatch v).core.readInFlight = s.core.readInFlight := rfl
@[simp] theorem State.setDataLatch_core_writeInFlight (v : Byte) : (s.setDataLatch v).core.writeInFlight = s.core.writeInFlight := rfl
@[simp] theorem State.setDataLatch_core_topState (v : Byte) : (s.setDataLatch v).core.topState = s.core.topState := rfl
@[simp] theorem State.setDataLatch_pins (v : Byte) : (s.setDataLatch v).pins = s.pins := rfl
@[simp] theorem State.setDataLatch_handlerState (v : Byte) : (s.setDataLatch v).handlerState = s.handlerState := rfl
@[simp] theorem State.setDataLatch_faultRecord (v : Byte) : (s.setDataLatch v).faultRecord = s.faultRecord := rfl
@[simp] theorem State.setDataLatch_handlerReply (v : Byte) : (s.setDataLatch v).handlerReply = s.handlerReply := rfl
@[simp] theorem State.setDataLatch_stepResult (v : Byte) : (s.setDataLatch v).stepResult = s.stepResult := rfl
@[simp] theorem State.setDataLatch_handlerReplies (v : Byte) : (s.setDataLatch v).handlerReplies = s.handlerReplies := rfl
@[simp] theorem State.setDataLatch_commands (v : Byte) : (s.setDataLatch v).commands = s.commands := rfl
@[simp] theorem State.setDataLatch_draws (v : Byte) : (s.setDataLatch v).draws = s.draws := rfl

@[simp] theorem State.setHalfCycle_core_programCounter (v : HalfCycle) : (s.setHalfCycle v).core.programCounter = s.core.programCounter := rfl
@[simp] theorem State.setHalfCycle_core_instructionLatch (v : HalfCycle) : (s.setHalfCycle v).core.instructionLatch = s.core.instructionLatch := rfl
@[simp] theorem State.setHalfCycle_core_addressLatch (v : HalfCycle) : (s.setHalfCycle v).core.addressLatch = s.core.addressLatch := rfl
@[simp] theorem State.setHalfCycle_core_dataLatch (v : HalfCycle) : (s.setHalfCycle v).core.dataLatch = s.core.dataLatch := rfl
@[simp] theorem State.setHalfCycle_core_halfCycle (v : HalfCycle) : (s.setHalfCycle v).core.halfCycle = v := rfl
@[simp] theorem State.setHalfCycle_core_readInFlight (v : HalfCycle) : (s.setHalfCycle v).core.readInFlight = s.core.readInFlight := rfl
@[simp] theorem State.setHalfCycle_core_writeInFlight (v : HalfCycle) : (s.setHalfCycle v).core.writeInFlight = s.core.writeInFlight := rfl
@[simp] theorem State.setHalfCycle_core_topState (v : HalfCycle) : (s.setHalfCycle v).core.topState = s.core.topState := rfl
@[simp] theorem State.setHalfCycle_pins (v : HalfCycle) : (s.setHalfCycle v).pins = s.pins := rfl
@[simp] theorem State.setHalfCycle_handlerState (v : HalfCycle) : (s.setHalfCycle v).handlerState = s.handlerState := rfl
@[simp] theorem State.setHalfCycle_faultRecord (v : HalfCycle) : (s.setHalfCycle v).faultRecord = s.faultRecord := rfl
@[simp] theorem State.setHalfCycle_handlerReply (v : HalfCycle) : (s.setHalfCycle v).handlerReply = s.handlerReply := rfl
@[simp] theorem State.setHalfCycle_stepResult (v : HalfCycle) : (s.setHalfCycle v).stepResult = s.stepResult := rfl
@[simp] theorem State.setHalfCycle_handlerReplies (v : HalfCycle) : (s.setHalfCycle v).handlerReplies = s.handlerReplies := rfl
@[simp] theorem State.setHalfCycle_commands (v : HalfCycle) : (s.setHalfCycle v).commands = s.commands := rfl
@[simp] theorem State.setHalfCycle_draws (v : HalfCycle) : (s.setHalfCycle v).draws = s.draws := rfl

@[simp] theorem State.setReadInFlight_core_programCounter (v : Bool) : (s.setReadInFlight v).core.programCounter = s.core.programCounter := rfl
@[simp] theorem State.setReadInFlight_core_instructionLatch (v : Bool) : (s.setReadInFlight v).core.instructionLatch = s.core.instructionLatch := rfl
@[simp] theorem State.setReadInFlight_core_addressLatch (v : Bool) : (s.setReadInFlight v).core.addressLatch = s.core.addressLatch := rfl
@[simp] theorem State.setReadInFlight_core_dataLatch (v : Bool) : (s.setReadInFlight v).core.dataLatch = s.core.dataLatch := rfl
@[simp] theorem State.setReadInFlight_core_halfCycle (v : Bool) : (s.setReadInFlight v).core.halfCycle = s.core.halfCycle := rfl
@[simp] theorem State.setReadInFlight_core_readInFlight (v : Bool) : (s.setReadInFlight v).core.readInFlight = v := rfl
@[simp] theorem State.setReadInFlight_core_writeInFlight (v : Bool) : (s.setReadInFlight v).core.writeInFlight = s.core.writeInFlight := rfl
@[simp] theorem State.setReadInFlight_core_topState (v : Bool) : (s.setReadInFlight v).core.topState = s.core.topState := rfl
@[simp] theorem State.setReadInFlight_pins (v : Bool) : (s.setReadInFlight v).pins = s.pins := rfl
@[simp] theorem State.setReadInFlight_handlerState (v : Bool) : (s.setReadInFlight v).handlerState = s.handlerState := rfl
@[simp] theorem State.setReadInFlight_faultRecord (v : Bool) : (s.setReadInFlight v).faultRecord = s.faultRecord := rfl
@[simp] theorem State.setReadInFlight_handlerReply (v : Bool) : (s.setReadInFlight v).handlerReply = s.handlerReply := rfl
@[simp] theorem State.setReadInFlight_stepResult (v : Bool) : (s.setReadInFlight v).stepResult = s.stepResult := rfl
@[simp] theorem State.setReadInFlight_handlerReplies (v : Bool) : (s.setReadInFlight v).handlerReplies = s.handlerReplies := rfl
@[simp] theorem State.setReadInFlight_commands (v : Bool) : (s.setReadInFlight v).commands = s.commands := rfl
@[simp] theorem State.setReadInFlight_draws (v : Bool) : (s.setReadInFlight v).draws = s.draws := rfl

@[simp] theorem State.setWriteInFlight_core_programCounter (v : Bool) : (s.setWriteInFlight v).core.programCounter = s.core.programCounter := rfl
@[simp] theorem State.setWriteInFlight_core_instructionLatch (v : Bool) : (s.setWriteInFlight v).core.instructionLatch = s.core.instructionLatch := rfl
@[simp] theorem State.setWriteInFlight_core_addressLatch (v : Bool) : (s.setWriteInFlight v).core.addressLatch = s.core.addressLatch := rfl
@[simp] theorem State.setWriteInFlight_core_dataLatch (v : Bool) : (s.setWriteInFlight v).core.dataLatch = s.core.dataLatch := rfl
@[simp] theorem State.setWriteInFlight_core_halfCycle (v : Bool) : (s.setWriteInFlight v).core.halfCycle = s.core.halfCycle := rfl
@[simp] theorem State.setWriteInFlight_core_readInFlight (v : Bool) : (s.setWriteInFlight v).core.readInFlight = s.core.readInFlight := rfl
@[simp] theorem State.setWriteInFlight_core_writeInFlight (v : Bool) : (s.setWriteInFlight v).core.writeInFlight = v := rfl
@[simp] theorem State.setWriteInFlight_core_topState (v : Bool) : (s.setWriteInFlight v).core.topState = s.core.topState := rfl
@[simp] theorem State.setWriteInFlight_pins (v : Bool) : (s.setWriteInFlight v).pins = s.pins := rfl
@[simp] theorem State.setWriteInFlight_handlerState (v : Bool) : (s.setWriteInFlight v).handlerState = s.handlerState := rfl
@[simp] theorem State.setWriteInFlight_faultRecord (v : Bool) : (s.setWriteInFlight v).faultRecord = s.faultRecord := rfl
@[simp] theorem State.setWriteInFlight_handlerReply (v : Bool) : (s.setWriteInFlight v).handlerReply = s.handlerReply := rfl
@[simp] theorem State.setWriteInFlight_stepResult (v : Bool) : (s.setWriteInFlight v).stepResult = s.stepResult := rfl
@[simp] theorem State.setWriteInFlight_handlerReplies (v : Bool) : (s.setWriteInFlight v).handlerReplies = s.handlerReplies := rfl
@[simp] theorem State.setWriteInFlight_commands (v : Bool) : (s.setWriteInFlight v).commands = s.commands := rfl
@[simp] theorem State.setWriteInFlight_draws (v : Bool) : (s.setWriteInFlight v).draws = s.draws := rfl

@[simp] theorem State.setTopState_core_programCounter (v : TopState) : (s.setTopState v).core.programCounter = s.core.programCounter := rfl
@[simp] theorem State.setTopState_core_instructionLatch (v : TopState) : (s.setTopState v).core.instructionLatch = s.core.instructionLatch := rfl
@[simp] theorem State.setTopState_core_addressLatch (v : TopState) : (s.setTopState v).core.addressLatch = s.core.addressLatch := rfl
@[simp] theorem State.setTopState_core_dataLatch (v : TopState) : (s.setTopState v).core.dataLatch = s.core.dataLatch := rfl
@[simp] theorem State.setTopState_core_halfCycle (v : TopState) : (s.setTopState v).core.halfCycle = s.core.halfCycle := rfl
@[simp] theorem State.setTopState_core_readInFlight (v : TopState) : (s.setTopState v).core.readInFlight = s.core.readInFlight := rfl
@[simp] theorem State.setTopState_core_writeInFlight (v : TopState) : (s.setTopState v).core.writeInFlight = s.core.writeInFlight := rfl
@[simp] theorem State.setTopState_core_topState (v : TopState) : (s.setTopState v).core.topState = v := rfl
@[simp] theorem State.setTopState_pins (v : TopState) : (s.setTopState v).pins = s.pins := rfl
@[simp] theorem State.setTopState_handlerState (v : TopState) : (s.setTopState v).handlerState = s.handlerState := rfl
@[simp] theorem State.setTopState_faultRecord (v : TopState) : (s.setTopState v).faultRecord = s.faultRecord := rfl
@[simp] theorem State.setTopState_handlerReply (v : TopState) : (s.setTopState v).handlerReply = s.handlerReply := rfl
@[simp] theorem State.setTopState_stepResult (v : TopState) : (s.setTopState v).stepResult = s.stepResult := rfl
@[simp] theorem State.setTopState_handlerReplies (v : TopState) : (s.setTopState v).handlerReplies = s.handlerReplies := rfl
@[simp] theorem State.setTopState_commands (v : TopState) : (s.setTopState v).commands = s.commands := rfl
@[simp] theorem State.setTopState_draws (v : TopState) : (s.setTopState v).draws = s.draws := rfl

@[simp] theorem State.setPins_core_programCounter (v : PinSet) : (s.setPins v).core.programCounter = s.core.programCounter := rfl
@[simp] theorem State.setPins_core_instructionLatch (v : PinSet) : (s.setPins v).core.instructionLatch = s.core.instructionLatch := rfl
@[simp] theorem State.setPins_core_addressLatch (v : PinSet) : (s.setPins v).core.addressLatch = s.core.addressLatch := rfl
@[simp] theorem State.setPins_core_dataLatch (v : PinSet) : (s.setPins v).core.dataLatch = s.core.dataLatch := rfl
@[simp] theorem State.setPins_core_halfCycle (v : PinSet) : (s.setPins v).core.halfCycle = s.core.halfCycle := rfl
@[simp] theorem State.setPins_core_readInFlight (v : PinSet) : (s.setPins v).core.readInFlight = s.core.readInFlight := rfl
@[simp] theorem State.setPins_core_writeInFlight (v : PinSet) : (s.setPins v).core.writeInFlight = s.core.writeInFlight := rfl
@[simp] theorem State.setPins_core_topState (v : PinSet) : (s.setPins v).core.topState = s.core.topState := rfl
@[simp] theorem State.setPins_pins (v : PinSet) : (s.setPins v).pins = v := rfl
@[simp] theorem State.setPins_handlerState (v : PinSet) : (s.setPins v).handlerState = s.handlerState := rfl
@[simp] theorem State.setPins_faultRecord (v : PinSet) : (s.setPins v).faultRecord = s.faultRecord := rfl
@[simp] theorem State.setPins_handlerReply (v : PinSet) : (s.setPins v).handlerReply = s.handlerReply := rfl
@[simp] theorem State.setPins_stepResult (v : PinSet) : (s.setPins v).stepResult = s.stepResult := rfl
@[simp] theorem State.setPins_handlerReplies (v : PinSet) : (s.setPins v).handlerReplies = s.handlerReplies := rfl
@[simp] theorem State.setPins_commands (v : PinSet) : (s.setPins v).commands = s.commands := rfl
@[simp] theorem State.setPins_draws (v : PinSet) : (s.setPins v).draws = s.draws := rfl
@[simp] theorem State.setPins_core (v : PinSet) : (s.setPins v).core = s.core := rfl

@[simp] theorem State.setHandlerState_core_programCounter (v : HandlerState) : (s.setHandlerState v).core.programCounter = s.core.programCounter := rfl
@[simp] theorem State.setHandlerState_core_instructionLatch (v : HandlerState) : (s.setHandlerState v).core.instructionLatch = s.core.instructionLatch := rfl
@[simp] theorem State.setHandlerState_core_addressLatch (v : HandlerState) : (s.setHandlerState v).core.addressLatch = s.core.addressLatch := rfl
@[simp] theorem State.setHandlerState_core_dataLatch (v : HandlerState) : (s.setHandlerState v).core.dataLatch = s.core.dataLatch := rfl
@[simp] theorem State.setHandlerState_core_halfCycle (v : HandlerState) : (s.setHandlerState v).core.halfCycle = s.core.halfCycle := rfl
@[simp] theorem State.setHandlerState_core_readInFlight (v : HandlerState) : (s.setHandlerState v).core.readInFlight = s.core.readInFlight := rfl
@[simp] theorem State.setHandlerState_core_writeInFlight (v : HandlerState) : (s.setHandlerState v).core.writeInFlight = s.core.writeInFlight := rfl
@[simp] theorem State.setHandlerState_core_topState (v : HandlerState) : (s.setHandlerState v).core.topState = s.core.topState := rfl
@[simp] theorem State.setHandlerState_pins (v : HandlerState) : (s.setHandlerState v).pins = s.pins := rfl
@[simp] theorem State.setHandlerState_handlerState (v : HandlerState) : (s.setHandlerState v).handlerState = v := rfl
@[simp] theorem State.setHandlerState_faultRecord (v : HandlerState) : (s.setHandlerState v).faultRecord = s.faultRecord := rfl
@[simp] theorem State.setHandlerState_handlerReply (v : HandlerState) : (s.setHandlerState v).handlerReply = s.handlerReply := rfl
@[simp] theorem State.setHandlerState_stepResult (v : HandlerState) : (s.setHandlerState v).stepResult = s.stepResult := rfl
@[simp] theorem State.setHandlerState_handlerReplies (v : HandlerState) : (s.setHandlerState v).handlerReplies = s.handlerReplies := rfl
@[simp] theorem State.setHandlerState_commands (v : HandlerState) : (s.setHandlerState v).commands = s.commands := rfl
@[simp] theorem State.setHandlerState_draws (v : HandlerState) : (s.setHandlerState v).draws = s.draws := rfl
@[simp] theorem State.setHandlerState_core (v : HandlerState) : (s.setHandlerState v).core = s.core := rfl

@[simp] theorem State.setFaultRecord_core_programCounter (v : Option FaultRecord) : (s.setFaultRecord v).core.programCounter = s.core.programCounter := rfl
@[simp] theorem State.setFaultRecord_core_instructionLatch (v : Option FaultRecord) : (s.setFaultRecord v).core.instructionLatch = s.core.instructionLatch := rfl
@[simp] theorem State.setFaultRecord_core_addressLatch (v : Option FaultRecord) : (s.setFaultRecord v).core.addressLatch = s.core.addressLatch := rfl
@[simp] theorem State.setFaultRecord_core_dataLatch (v : Option FaultRecord) : (s.setFaultRecord v).core.dataLatch = s.core.dataLatch := rfl
@[simp] theorem State.setFaultRecord_core_halfCycle (v : Option FaultRecord) : (s.setFaultRecord v).core.halfCycle = s.core.halfCycle := rfl
@[simp] theorem State.setFaultRecord_core_readInFlight (v : Option FaultRecord) : (s.setFaultRecord v).core.readInFlight = s.core.readInFlight := rfl
@[simp] theorem State.setFaultRecord_core_writeInFlight (v : Option FaultRecord) : (s.setFaultRecord v).core.writeInFlight = s.core.writeInFlight := rfl
@[simp] theorem State.setFaultRecord_core_topState (v : Option FaultRecord) : (s.setFaultRecord v).core.topState = s.core.topState := rfl
@[simp] theorem State.setFaultRecord_pins (v : Option FaultRecord) : (s.setFaultRecord v).pins = s.pins := rfl
@[simp] theorem State.setFaultRecord_handlerState (v : Option FaultRecord) : (s.setFaultRecord v).handlerState = s.handlerState := rfl
@[simp] theorem State.setFaultRecord_faultRecord (v : Option FaultRecord) : (s.setFaultRecord v).faultRecord = v := rfl
@[simp] theorem State.setFaultRecord_handlerReply (v : Option FaultRecord) : (s.setFaultRecord v).handlerReply = s.handlerReply := rfl
@[simp] theorem State.setFaultRecord_stepResult (v : Option FaultRecord) : (s.setFaultRecord v).stepResult = s.stepResult := rfl
@[simp] theorem State.setFaultRecord_handlerReplies (v : Option FaultRecord) : (s.setFaultRecord v).handlerReplies = s.handlerReplies := rfl
@[simp] theorem State.setFaultRecord_commands (v : Option FaultRecord) : (s.setFaultRecord v).commands = s.commands := rfl
@[simp] theorem State.setFaultRecord_draws (v : Option FaultRecord) : (s.setFaultRecord v).draws = s.draws := rfl
@[simp] theorem State.setFaultRecord_core (v : Option FaultRecord) : (s.setFaultRecord v).core = s.core := rfl

@[simp] theorem State.setHandlerReply_core_programCounter (v : Option Status) : (s.setHandlerReply v).core.programCounter = s.core.programCounter := rfl
@[simp] theorem State.setHandlerReply_core_instructionLatch (v : Option Status) : (s.setHandlerReply v).core.instructionLatch = s.core.instructionLatch := rfl
@[simp] theorem State.setHandlerReply_core_addressLatch (v : Option Status) : (s.setHandlerReply v).core.addressLatch = s.core.addressLatch := rfl
@[simp] theorem State.setHandlerReply_core_dataLatch (v : Option Status) : (s.setHandlerReply v).core.dataLatch = s.core.dataLatch := rfl
@[simp] theorem State.setHandlerReply_core_halfCycle (v : Option Status) : (s.setHandlerReply v).core.halfCycle = s.core.halfCycle := rfl
@[simp] theorem State.setHandlerReply_core_readInFlight (v : Option Status) : (s.setHandlerReply v).core.readInFlight = s.core.readInFlight := rfl
@[simp] theorem State.setHandlerReply_core_writeInFlight (v : Option Status) : (s.setHandlerReply v).core.writeInFlight = s.core.writeInFlight := rfl
@[simp] theorem State.setHandlerReply_core_topState (v : Option Status) : (s.setHandlerReply v).core.topState = s.core.topState := rfl
@[simp] theorem State.setHandlerReply_pins (v : Option Status) : (s.setHandlerReply v).pins = s.pins := rfl
@[simp] theorem State.setHandlerReply_handlerState (v : Option Status) : (s.setHandlerReply v).handlerState = s.handlerState := rfl
@[simp] theorem State.setHandlerReply_faultRecord (v : Option Status) : (s.setHandlerReply v).faultRecord = s.faultRecord := rfl
@[simp] theorem State.setHandlerReply_handlerReply (v : Option Status) : (s.setHandlerReply v).handlerReply = v := rfl
@[simp] theorem State.setHandlerReply_stepResult (v : Option Status) : (s.setHandlerReply v).stepResult = s.stepResult := rfl
@[simp] theorem State.setHandlerReply_handlerReplies (v : Option Status) : (s.setHandlerReply v).handlerReplies = s.handlerReplies := rfl
@[simp] theorem State.setHandlerReply_commands (v : Option Status) : (s.setHandlerReply v).commands = s.commands := rfl
@[simp] theorem State.setHandlerReply_draws (v : Option Status) : (s.setHandlerReply v).draws = s.draws := rfl
@[simp] theorem State.setHandlerReply_core (v : Option Status) : (s.setHandlerReply v).core = s.core := rfl

@[simp] theorem State.setStepResult_core_programCounter (v : Option Bool) : (s.setStepResult v).core.programCounter = s.core.programCounter := rfl
@[simp] theorem State.setStepResult_core_instructionLatch (v : Option Bool) : (s.setStepResult v).core.instructionLatch = s.core.instructionLatch := rfl
@[simp] theorem State.setStepResult_core_addressLatch (v : Option Bool) : (s.setStepResult v).core.addressLatch = s.core.addressLatch := rfl
@[simp] theorem State.setStepResult_core_dataLatch (v : Option Bool) : (s.setStepResult v).core.dataLatch = s.core.dataLatch := rfl
@[simp] theorem State.setStepResult_core_halfCycle (v : Option Bool) : (s.setStepResult v).core.halfCycle = s.core.halfCycle := rfl
@[simp] theorem State.setStepResult_core_readInFlight (v : Option Bool) : (s.setStepResult v).core.readInFlight = s.core.readInFlight := rfl
@[simp] theorem State.setStepResult_core_writeInFlight (v : Option Bool) : (s.setStepResult v).core.writeInFlight = s.core.writeInFlight := rfl
@[simp] theorem State.setStepResult_core_topState (v : Option Bool) : (s.setStepResult v).core.topState = s.core.topState := rfl
@[simp] theorem State.setStepResult_pins (v : Option Bool) : (s.setStepResult v).pins = s.pins := rfl
@[simp] theorem State.setStepResult_handlerState (v : Option Bool) : (s.setStepResult v).handlerState = s.handlerState := rfl
@[simp] theorem State.setStepResult_faultRecord (v : Option Bool) : (s.setStepResult v).faultRecord = s.faultRecord := rfl
@[simp] theorem State.setStepResult_handlerReply (v : Option Bool) : (s.setStepResult v).handlerReply = s.handlerReply := rfl
@[simp] theorem State.setStepResult_stepResult (v : Option Bool) : (s.setStepResult v).stepResult = v := rfl
@[simp] theorem State.setStepResult_handlerReplies (v : Option Bool) : (s.setStepResult v).handlerReplies = s.handlerReplies := rfl
@[simp] theorem State.setStepResult_commands (v : Option Bool) : (s.setStepResult v).commands = s.commands := rfl
@[simp] theorem State.setStepResult_draws (v : Option Bool) : (s.setStepResult v).draws = s.draws := rfl
@[simp] theorem State.setStepResult_core (v : Option Bool) : (s.setStepResult v).core = s.core := rfl

@[simp] theorem State.setHandlerReplies_core_programCounter (v : List HandlerReply) : (s.setHandlerReplies v).core.programCounter = s.core.programCounter := rfl
@[simp] theorem State.setHandlerReplies_core_instructionLatch (v : List HandlerReply) : (s.setHandlerReplies v).core.instructionLatch = s.core.instructionLatch := rfl
@[simp] theorem State.setHandlerReplies_core_addressLatch (v : List HandlerReply) : (s.setHandlerReplies v).core.addressLatch = s.core.addressLatch := rfl
@[simp] theorem State.setHandlerReplies_core_dataLatch (v : List HandlerReply) : (s.setHandlerReplies v).core.dataLatch = s.core.dataLatch := rfl
@[simp] theorem State.setHandlerReplies_core_halfCycle (v : List HandlerReply) : (s.setHandlerReplies v).core.halfCycle = s.core.halfCycle := rfl
@[simp] theorem State.setHandlerReplies_core_readInFlight (v : List HandlerReply) : (s.setHandlerReplies v).core.readInFlight = s.core.readInFlight := rfl
@[simp] theorem State.setHandlerReplies_core_writeInFlight (v : List HandlerReply) : (s.setHandlerReplies v).core.writeInFlight = s.core.writeInFlight := rfl
@[simp] theorem State.setHandlerReplies_core_topState (v : List HandlerReply) : (s.setHandlerReplies v).core.topState = s.core.topState := rfl
@[simp] theorem State.setHandlerReplies_pins (v : List HandlerReply) : (s.setHandlerReplies v).pins = s.pins := rfl
@[simp] theorem State.setHandlerReplies_handlerState (v : List HandlerReply) : (s.setHandlerReplies v).handlerState = s.handlerState := rfl
@[simp] theorem State.setHandlerReplies_faultRecord (v : List HandlerReply) : (s.setHandlerReplies v).faultRecord = s.faultRecord := rfl
@[simp] theorem State.setHandlerReplies_handlerReply (v : List HandlerReply) : (s.setHandlerReplies v).handlerReply = s.handlerReply := rfl
@[simp] theorem State.setHandlerReplies_stepResult (v : List HandlerReply) : (s.setHandlerReplies v).stepResult = s.stepResult := rfl
@[simp] theorem State.setHandlerReplies_handlerReplies (v : List HandlerReply) : (s.setHandlerReplies v).handlerReplies = v := rfl
@[simp] theorem State.setHandlerReplies_commands (v : List HandlerReply) : (s.setHandlerReplies v).commands = s.commands := rfl
@[simp] theorem State.setHandlerReplies_draws (v : List HandlerReply) : (s.setHandlerReplies v).draws = s.draws := rfl
@[simp] theorem State.setHandlerReplies_core (v : List HandlerReply) : (s.setHandlerReplies v).core = s.core := rfl

@[simp] theorem State.setCommands_core_programCounter (v : List Command) : (s.setCommands v).core.programCounter = s.core.programCounter := rfl
@[simp] theorem State.setCommands_core_instructionLatch (v : List Command) : (s.setCommands v).core.instructionLatch = s.core.instructionLatch := rfl
@[simp] theorem State.setCommands_core_addressLatch (v : List Command) : (s.setCommands v).core.addressLatch = s.core.addressLatch := rfl
@[simp] theorem State.setCommands_core_dataLatch (v : List Command) : (s.setCommands v).core.dataLatch = s.core.dataLatch := rfl
@[simp] theorem State.setCommands_core_halfCycle (v : List Command) : (s.setCommands v).core.halfCycle = s.core.halfCycle := rfl
@[simp] theorem State.setCommands_core_readInFlight (v : List Command) : (s.setCommands v).core.readInFlight = s.core.readInFlight := rfl
@[simp] theorem State.setCommands_core_writeInFlight (v : List Command) : (s.setCommands v).core.writeInFlight = s.core.writeInFlight := rfl
@[simp] theorem State.setCommands_core_topState (v : List Command) : (s.setCommands v).core.topState = s.core.topState := rfl
@[simp] theorem State.setCommands_pins (v : List Command) : (s.setCommands v).pins = s.pins := rfl
@[simp] theorem State.setCommands_handlerState (v : List Command) : (s.setCommands v).handlerState = s.handlerState := rfl
@[simp] theorem State.setCommands_faultRecord (v : List Command) : (s.setCommands v).faultRecord = s.faultRecord := rfl
@[simp] theorem State.setCommands_handlerReply (v : List Command) : (s.setCommands v).handlerReply = s.handlerReply := rfl
@[simp] theorem State.setCommands_stepResult (v : List Command) : (s.setCommands v).stepResult = s.stepResult := rfl
@[simp] theorem State.setCommands_handlerReplies (v : List Command) : (s.setCommands v).handlerReplies = s.handlerReplies := rfl
@[simp] theorem State.setCommands_commands (v : List Command) : (s.setCommands v).commands = v := rfl
@[simp] theorem State.setCommands_draws (v : List Command) : (s.setCommands v).draws = s.draws := rfl
@[simp] theorem State.setCommands_core (v : List Command) : (s.setCommands v).core = s.core := rfl

@[simp] theorem State.setDraws_core_programCounter (v : Nat) : (s.setDraws v).core.programCounter = s.core.programCounter := rfl
@[simp] theorem State.setDraws_core_instructionLatch (v : Nat) : (s.setDraws v).core.instructionLatch = s.core.instructionLatch := rfl
@[simp] theorem State.setDraws_core_addressLatch (v : Nat) : (s.setDraws v).core.addressLatch = s.core.addressLatch := rfl
@[simp] theorem State.setDraws_core_dataLatch (v : Nat) : (s.setDraws v).core.dataLatch = s.core.dataLatch := rfl
@[simp] theorem State.setDraws_core_halfCycle (v : Nat) : (s.setDraws v).core.halfCycle = s.core.halfCycle := rfl
@[simp] theorem State.setDraws_core_readInFlight (v : Nat) : (s.setDraws v).core.readInFlight = s.core.readInFlight := rfl
@[simp] theorem State.setDraws_core_writeInFlight (v : Nat) : (s.setDraws v).core.writeInFlight = s.core.writeInFlight := rfl
@[simp] theorem State.setDraws_core_topState (v : Nat) : (s.setDraws v).core.topState = s.core.topState := rfl
@[simp] theorem State.setDraws_pins (v : Nat) : (s.setDraws v).pins = s.pins := rfl
@[simp] theorem State.setDraws_handlerState (v : Nat) : (s.setDraws v).handlerState = s.handlerState := rfl
@[simp] theorem State.setDraws_faultRecord (v : Nat) : (s.setDraws v).faultRecord = s.faultRecord := rfl
@[simp] theorem State.setDraws_handlerReply (v : Nat) : (s.setDraws v).handlerReply = s.handlerReply := rfl
@[simp] theorem State.setDraws_stepResult (v : Nat) : (s.setDraws v).stepResult = s.stepResult := rfl
@[simp] theorem State.setDraws_handlerReplies (v : Nat) : (s.setDraws v).handlerReplies = s.handlerReplies := rfl
@[simp] theorem State.setDraws_commands (v : Nat) : (s.setDraws v).commands = s.commands := rfl
@[simp] theorem State.setDraws_draws (v : Nat) : (s.setDraws v).draws = v := rfl
@[simp] theorem State.setDraws_core (v : Nat) : (s.setDraws v).core = s.core := rfl

end Sys2Proof.Machine
end

