-- ==== Sys2Proof/Laws/Bus.lean ====
section
/-! SUPPORT. The half-cycle timing table row by row, and one lemma for each begin and step that says everything it can do. -/

namespace Sys2Proof.Machine

/-- The eight half-cycles. -/
theorem halfCycle_cases (h : HalfCycle) : h = 0#3 ∨ h = 1#3 ∨ h = 2#3 ∨ h = 3#3 ∨ h = 4#3 ∨ h = 5#3 ∨ h = 6#3 ∨ h = 7#3 := by
  revert h
  decide

section Rows
variable (hc3 : HramWriteHc3) (dir : Direction) (r : Region) (l : Addr) (d : Byte) (p : PinSet)

@[simp] theorem rowPins_zero : rowPins hc3 dir r 0#3 l d p = rowZero p := rfl
@[simp] theorem rowPins_one : rowPins hc3 dir r 1#3 l d p = rowOne dir r l p := rfl
@[simp] theorem rowPins_two : rowPins hc3 dir r 2#3 l d p = rowTwo r p := rfl
@[simp] theorem rowPins_three : rowPins hc3 dir r 3#3 l d p = rowThree hc3 dir r d p := rfl
@[simp] theorem rowPins_four : rowPins hc3 dir r 4#3 l d p = p := rfl
@[simp] theorem rowPins_five : rowPins hc3 dir r 5#3 l d p = p := rfl
@[simp] theorem rowPins_six : rowPins hc3 dir r 6#3 l d p = rowSix dir p := rfl
@[simp] theorem rowPins_seven : rowPins hc3 dir r 7#3 l d p = p := rfl

/-- No row writes the phase (R35, R36). -/
@[simp] theorem rowPins_phase (h : HalfCycle) : (rowPins hc3 dir r h l d p).phase = p.phase := by
  rcases halfCycle_cases h with rfl | rfl | rfl | rfl | rfl | rfl | rfl | rfl <;>
    cases r <;> cases dir <;> rfl

/-- A read's rows never write the data pins or pull WR low (R121 to R126). -/
theorem rowPins_read_data (h : HalfCycle) : (rowPins hc3 .read r h l d p).data = p.data := by
  rcases halfCycle_cases h with rfl | rfl | rfl | rfl | rfl | rfl | rfl | rfl <;> cases r <;> rfl

end Rows

section Region
variable {a : Addr}

theorem region_rom (h : a.toNat ≤ 0x7FFF) : region a = .rom := by
  simp [region, regionWith, addressClass, h]

theorem region_other (h : 0x8000 ≤ a.toNat) (h' : a.toNat ≤ 0x9FFF) : region a = .hramIo := by
  have : ¬ a.toNat ≤ 0x7FFF := by omega
  simp [region, regionWith, addressClass, this, h', Config.region8000Class]

theorem region_ram (h : 0xA000 ≤ a.toNat) (h' : a.toNat ≤ 0xFDFF) : region a = .ram := by
  have h₁ : ¬ a.toNat ≤ 0x7FFF := by omega
  have h₂ : ¬ a.toNat ≤ 0x9FFF := by omega
  simp [region, regionWith, addressClass, h₁, h₂, h']

theorem region_hramIo (h : 0xFE00 ≤ a.toNat) : region a = .hramIo := by
  have h₁ : ¬ a.toNat ≤ 0x7FFF := by omega
  have h₂ : ¬ a.toNat ≤ 0x9FFF := by omega
  have h₃ : ¬ a.toNat ≤ 0xFDFF := by omega
  simp [region, regionWith, addressClass, h₁, h₂, h₃]

end Region

section PerformRow
variable (dir : Direction) (s : State)

/-- A row writes the pins and, at read row 6, the data latch. -/
theorem performRow_eq : performRow dir s =
    { s with
      core := { s.core with dataLatch := sampleAtRowSix dir s }
      pins := rowPins Config.hramWriteHc3 dir (region s.core.addressLatch) s.core.halfCycle s.core.addressLatch
        s.core.dataLatch s.pins } := rfl

@[simp] theorem performRow_programCounter : (performRow dir s).core.programCounter = s.core.programCounter := rfl
@[simp] theorem performRow_instructionLatch : (performRow dir s).core.instructionLatch = s.core.instructionLatch := rfl
@[simp] theorem performRow_addressLatch : (performRow dir s).core.addressLatch = s.core.addressLatch := rfl
@[simp] theorem performRow_dataLatch : (performRow dir s).core.dataLatch = sampleAtRowSix dir s := rfl
@[simp] theorem performRow_halfCycle : (performRow dir s).core.halfCycle = s.core.halfCycle := rfl
@[simp] theorem performRow_readInFlight : (performRow dir s).core.readInFlight = s.core.readInFlight := rfl
@[simp] theorem performRow_writeInFlight : (performRow dir s).core.writeInFlight = s.core.writeInFlight := rfl
@[simp] theorem performRow_topState : (performRow dir s).core.topState = s.core.topState := rfl
@[simp] theorem performRow_handlerState : (performRow dir s).handlerState = s.handlerState := rfl
@[simp] theorem performRow_faultRecord : (performRow dir s).faultRecord = s.faultRecord := rfl
@[simp] theorem performRow_handlerReply : (performRow dir s).handlerReply = s.handlerReply := rfl
@[simp] theorem performRow_stepResult : (performRow dir s).stepResult = s.stepResult := rfl
@[simp] theorem performRow_handlerReplies : (performRow dir s).handlerReplies = s.handlerReplies := rfl
@[simp] theorem performRow_commands : (performRow dir s).commands = s.commands := rfl
@[simp] theorem performRow_draws : (performRow dir s).draws = s.draws := rfl
@[simp] theorem performRow_phase : (performRow dir s).pins.phase = s.pins.phase := by
  simp [performRow_eq]

end PerformRow

theorem busy_eq_false {c : CoreState} : c.busy = false ↔ c.readInFlight = false ∧ c.writeInFlight = false := by
  simp [CoreState.busy]

/-- Everything begin_read can do (R110). -/
theorem beginRead_cases {a : Addr} {s : State} {r : Except Fault State} (h : beginRead a s = r) :
    (s.core.busy = false ∧ r = .ok ((s.setAddressLatch a).setReadInFlight true)) ∨
      (s.core.busy = true ∧ r = .error (raiseBeginBusy .beginRead s)) := by
  unfold beginRead at h
  cases hb : s.core.busy <;> simp [hb] at h ⊢ <;> exact h.symm

/-- Everything begin_write can do (R111). -/
theorem beginWrite_cases {a : Addr} {d : Byte} {s : State} {r : Except Fault State} (h : beginWrite a d s = r) :
    (s.core.busy = false ∧ r = .ok (((s.setAddressLatch a).setDataLatch d).setWriteInFlight true)) ∨
      (s.core.busy = true ∧ r = .error (raiseBeginBusy .beginWrite s)) := by
  unfold beginWrite at h
  cases hb : s.core.busy <;> simp [hb] at h ⊢ <;> exact h.symm

/-- Everything step_read can do (R112). -/
theorem stepRead_cases {s : State} {r : Except Fault (State × Bool)} (h : stepRead s = r) :
    (s.core.readInFlight = true ∧ s.core.halfCycle = 7#3 ∧ r = .ok ((performRow .read s).setReadInFlight false, false)) ∨
      (s.core.readInFlight = true ∧ s.core.halfCycle ≠ 7#3 ∧ r = .ok (performRow .read s, true)) ∨
      (s.core.readInFlight = false ∧ r = .error (raiseStepIdle .stepRead s)) := by
  unfold stepRead atRowSeven at h
  cases hr : s.core.readInFlight <;> by_cases h7 : s.core.halfCycle = 7#3 <;> simp [hr, h7] at h ⊢ <;> exact h.symm

/-- Everything step_write can do (R113). -/
theorem stepWrite_cases {s : State} {r : Except Fault (State × Bool)} (h : stepWrite s = r) :
    (s.core.writeInFlight = true ∧ s.core.halfCycle = 7#3 ∧ r = .ok ((performRow .write s).setWriteInFlight false, false)) ∨
      (s.core.writeInFlight = true ∧ s.core.halfCycle ≠ 7#3 ∧ r = .ok (performRow .write s, true)) ∨
      (s.core.writeInFlight = false ∧ r = .error (raiseStepIdle .stepWrite s)) := by
  unfold stepWrite atRowSeven at h
  cases hr : s.core.writeInFlight <;> by_cases h7 : s.core.halfCycle = 7#3 <;> simp [hr, h7] at h ⊢ <;> exact h.symm

/-- With no fault recorded a command has its own outcome. -/
theorem ifLive_live {s : State} (h : s.faultRecord = none) (o : Host.Outcome State Fault Refusal) : ifLive s o = o := by
  simp [ifLive, h]

/-- After a fault every command is refused (R202). -/
theorem ifLive_faulted {s : State} {f : FaultRecord} (h : s.faultRecord = some f) (o : Host.Outcome State Fault Refusal) :
    ifLive s o = .refused .afterFault := by
  simp [ifLive, h]

/-- A command that answers a next state ran with no fault recorded. -/
theorem ifLive_next {s t : State} {o : Host.Outcome State Fault Refusal} (h : ifLive s o = .next t) :
    s.faultRecord = none ∧ o = .next t := by
  unfold ifLive at h
  cases hf : s.faultRecord <;> simp_all

/-- A command that faults ran with no fault recorded. -/
theorem ifLive_fault {s : State} {f : Fault} {o : Host.Outcome State Fault Refusal} (h : ifLive s o = .fault f) :
    s.faultRecord = none ∧ o = .fault f := by
  unfold ifLive at h
  cases hf : s.faultRecord <;> simp_all

/-- With no fault recorded a command answers what its operation answers. -/
theorem guarded_live {s : State} (h : s.faultRecord = none) (r : Except Fault State) : guarded s r = complete r :=
  ifLive_live h _

/-- A guarded command that answers a next state ran with no fault recorded, and its operation succeeded. -/
theorem guarded_next {s t : State} {r : Except Fault State} (h : guarded s r = .next t) :
    s.faultRecord = none ∧ r = .ok t := by
  obtain ⟨hf, h⟩ := ifLive_next h
  cases r <;> simp_all [complete]

/-- A guarded command that faults ran with no fault recorded, and its operation raised the fault. -/
theorem guarded_fault {s : State} {f : Fault} {r : Except Fault State} (h : guarded s r = .fault f) :
    s.faultRecord = none ∧ r = .error f := by
  obtain ⟨hf, h⟩ := ifLive_fault h
  cases r <;> simp_all [complete]

/-- In TEST the harness's write of an allowed field is the state `apply` gives (R164). -/
theorem harnessSet_test {w : HarnessWrite} {s t : State} (hm : s.core.topState = .test) (h : w.apply s = some t) :
    harnessSet w s = .next t := by
  simp [harnessSet, hm, h]

/-- Everything HARNESS_SET that answers a next state can have done (R164). -/
theorem harnessSet_next {w : HarnessWrite} {s t : State} (h : harnessSet w s = .next t) :
    s.core.topState = .test ∧ w.allowed = true ∧ w.apply s = some t := by
  unfold harnessSet at h
  cases hm : s.core.topState <;> simp only [hm, reduceCtorEq] at h
  cases w <;> simp_all [HarnessWrite.apply, HarnessWrite.allowed]

end Sys2Proof.Machine
end

