-- ==== Sys2Proof/Laws/Dispatch.lean ====
section
/-! SUPPORT. The dispatch table and exec, opcode by opcode said once: the opcode rows 0x01 to 0xFF all run invokeOpcode, and the table's entry
at an opcode is the meaning of the row the decoder gives for it. -/

namespace Sys2Proof.Machine

/-- The meaning of the row of a nonzero opcode (R186, R187). -/
def execOpcode (op : Byte) (s : State) : Host.Outcome State Fault Refusal := guarded s (invokeOpcode op s)

/-- The row of an opcode 0x01 to 0xFF means one invocation of that opcode's handler. -/
theorem exec_of_opcode {i : Instr} {op : Byte} (h : i.opcode = some op) (h0 : op ≠ 0#8) (s : State) :
    exec i s = execOpcode op s := by
  cases i <;> simp only [Instr.opcode, reduceCtorEq, Option.some.injEq] at h <;> subst h <;> first | rfl | exact absurd rfl h0

/-- The only row of opcode 0x00 is NOP. -/
theorem eq_nop_of_opcode {i : Instr} (h : i.opcode = some 0#8) : i = .nop := by
  cases i <;> simp [Instr.opcode] at h ⊢

set_option maxRecDepth 8000 in
/-- The entries of the dispatch table, all at once. -/
theorem handlerTable_eq :
    handlerTable = (List.range 256).map fun n => if n = 0 then execNop else execOpcode (BitVec.ofNat 8 n) := rfl

/-- The handler a tick invokes for opcode 0x00 (R185). -/
theorem handler_zero : handler 0#8 = execNop := rfl

/-- The handler a tick invokes for an opcode 0x01 to 0xFF (R181, R186, R187). -/
theorem handler_of_ne_zero {op : Byte} (h : op ≠ 0#8) : handler op = execOpcode op := by
  have hn : op.toNat ≠ 0 := fun e => h (BitVec.eq_of_toNat_eq (by simpa using e))
  simp [handler, handlerTable_eq, hn]

set_option maxRecDepth 8000 in
/-- The opcodes of the table's rows, all at once. -/
theorem opcodeTable_opcode :
    opcodeTable.map Instr.opcode = (List.range 256).map fun n => some (BitVec.ofNat 8 n) := rfl

/-- The row the decoder gives for a byte is a row of that byte (R71, R76). -/
theorem decodeOpcode_opcode (op : Byte) : (decodeOpcode op).opcode = some op := by
  have h : op.toNat < opcodeTable.length := by rw [opcodeTable_length]; exact op.isLt
  have he := congrArg (fun l => l[op.toNat]?) opcodeTable_opcode
  have hr : (List.range 256)[op.toNat]? = some op.toNat := List.getElem?_range op.isLt
  simp only [List.getElem?_map, hr, List.getElem?_eq_getElem h, Option.map_some, Option.some.injEq] at he
  simpa [decodeOpcode] using he

/-- A tick in EXECUTE invokes the meaning of the row the latched byte decodes to (R157, R181). -/
theorem handler_eq_exec (op : Byte) (s : State) : handler op s = exec (decodeOpcode op) s := by
  by_cases h : op = 0#8
  · subst h; rfl
  · rw [handler_of_ne_zero h, exec_of_opcode (decodeOpcode_opcode op) h]

end Sys2Proof.Machine
end

