-- ==== Sys2Proof/Laws/Fetch.lean ====
section
/-! SUPPORT. What the clock divider, the opcode fetch and a handler invocation can do, said once each. -/

namespace Sys2Proof.Machine

/-- advance writes the half-cycle and the phase, and nothing else (R100). -/
theorem advance_eq (s : State) : advance s =
    { s with
      core := { s.core with halfCycle := s.core.halfCycle + 1#3 }
      pins := { s.pins with phase := phaseOf (s.core.halfCycle + 1#3) } } := rfl

/-- Everything the fetch issue can do (R153, R168). -/
theorem fetchIssue_cases {s : State} {r : Except Fault State} (h : fetchIssue s = r) :
    (s.core.readInFlight = true ∧ r = .ok s) ∨
      (s.core.readInFlight = false ∧ s.core.writeInFlight = false ∧
        r = .ok (((s.setAddressLatch s.core.programCounter).setReadInFlight true).setProgramCounter (s.core.programCounter + 1#16))) ∨
      (s.core.readInFlight = false ∧ s.core.writeInFlight = true ∧ r = .error (raiseBeginBusy .beginRead s)) := by
  unfold fetchIssue beginRead CoreState.busy at h
  cases hr : s.core.readInFlight <;> cases hw : s.core.writeInFlight <;> simp [hr, hw] at h ⊢ <;> exact h.symm

/-- The state with the read FetchStep steps in flight: begun now, or in flight already (R153). -/
def withFetchInFlight (s : State) : State :=
  if s.core.readInFlight then s
  else ((s.setAddressLatch s.core.programCounter).setReadInFlight true).setProgramCounter (s.core.programCounter + 1#16)

/-- Everything FetchStep can do (R152): complete at half-cycle 7, perform another row, or fault because a write is in flight. -/
theorem fetchStep_cases {s : State} {r : Except Fault State} (h : fetchStep s = r) :
    ((s.core.readInFlight = true ∨ s.core.writeInFlight = false) ∧ s.core.halfCycle = 7#3 ∧
        r = .ok (fetchDone ((performRow .read (withFetchInFlight s)).setReadInFlight false))) ∨
      ((s.core.readInFlight = true ∨ s.core.writeInFlight = false) ∧ s.core.halfCycle ≠ 7#3 ∧
        r = .ok (performRow .read (withFetchInFlight s))) ∨
      (s.core.readInFlight = false ∧ s.core.writeInFlight = true ∧ r = .error (raiseBeginBusy .beginRead s)) := by
  unfold fetchStep at h
  rcases fetchIssue_cases (r := fetchIssue s) rfl with ⟨hr, hi⟩ | ⟨hr, hw, hi⟩ | ⟨hr, hw, hi⟩
  · by_cases h7 : s.core.halfCycle = 7#3 <;>
      simp [hi, stepRead, atRowSeven, withFetchInFlight, hr, h7] at h ⊢ <;> exact h.symm
  · by_cases h7 : s.core.halfCycle = 7#3 <;>
      simp [hi, stepRead, atRowSeven, withFetchInFlight, hr, hw, h7] at h ⊢ <;> exact h.symm
  · simp [hi] at h
    simp [hr, hw, h]

/-- A relation that every handler effect keeps, and that is reflexive and transitive, relates the ends of a handler's sequence. -/
theorem runActions_relates {R : State → State → Prop} (hrefl : ∀ s, R s s) (htrans : ∀ s t u, R s t → R t u → R s u)
    (hact : ∀ a s t, runAction a s = .ok t → R s t) :
    ∀ (as : List HandlerAction) (s t : State), runActions as s = .ok t → R s t := by
  intro as
  induction as with
  | nil =>
    intro s t h
    cases h
    exact hrefl s
  | cons a rest ih =>
    intro s t h
    simp only [runActions] at h
    cases ha : runAction a s with
    | error f => simp [ha] at h
    | ok u =>
      simp [ha] at h
      exact htrans s u t (hact a s u ha) (ih u t h)

/-- Where a handler's sequence faults, one of its effects faulted, in the state the effects before it left. -/
theorem runActions_error {R : State → State → Prop} (hrefl : ∀ s, R s s) (htrans : ∀ s t u, R s t → R t u → R s u)
    (hact : ∀ a s t, runAction a s = .ok t → R s t) :
    ∀ (as : List HandlerAction) (s : State) (f : Fault), runActions as s = .error f →
      ∃ a t, R s t ∧ runAction a t = .error f := by
  intro as
  induction as with
  | nil => intro s f h; simp [runActions] at h
  | cons a rest ih =>
    intro s f h
    simp only [runActions] at h
    cases ha : runAction a s with
    | error g =>
      simp [ha] at h
      subst h
      exact ⟨a, s, hrefl s, ha⟩
    | ok u =>
      simp [ha] at h
      obtain ⟨b, t, hr, hb⟩ := ih u f h
      exact ⟨b, t, htrans s u t (hact a s u ha) hr, hb⟩

/-- Everything one handler effect can do (R183). -/
theorem runAction_cases {a : HandlerAction} {s t : State} (h : runAction a s = .ok t) :
    (∃ x, a = .beginRead x ∧ s.core.busy = false ∧ t = (s.setAddressLatch x).setReadInFlight true) ∨
    (∃ x d, a = .beginWrite x d ∧ s.core.busy = false ∧ t = ((s.setAddressLatch x).setDataLatch d).setWriteInFlight true) ∨
    (a = .stepRead ∧ s.core.readInFlight = true ∧ s.core.halfCycle = 7#3 ∧ t = (performRow .read s).setReadInFlight false) ∨
    (a = .stepRead ∧ s.core.readInFlight = true ∧ s.core.halfCycle ≠ 7#3 ∧ t = performRow .read s) ∨
    (a = .stepWrite ∧ s.core.writeInFlight = true ∧ s.core.halfCycle = 7#3 ∧ t = (performRow .write s).setWriteInFlight false) ∨
    (a = .stepWrite ∧ s.core.writeInFlight = true ∧ s.core.halfCycle ≠ 7#3 ∧ t = performRow .write s) ∨
    (∃ v, a = .setProgramCounter v ∧ t = s.setProgramCounter v) ∨
    (∃ v, a = .setOwn v ∧ t = s.setHandlerState { s.handlerState with own := v }) := by
  cases a with
  | beginRead x => rcases beginRead_cases h with ⟨hb, hr⟩ | ⟨_, hr⟩ <;> simp_all
  | beginWrite x d => rcases beginWrite_cases h with ⟨hb, hr⟩ | ⟨_, hr⟩ <;> simp_all
  | stepRead =>
    simp only [runAction] at h
    rcases stepRead_cases (r := stepRead s) rfl with ⟨hr, h7, he⟩ | ⟨hr, h7, he⟩ | ⟨hr, he⟩ <;>
      simp_all [Except.map]
  | stepWrite =>
    simp only [runAction] at h
    rcases stepWrite_cases (r := stepWrite s) rfl with ⟨hr, h7, he⟩ | ⟨hr, h7, he⟩ | ⟨hr, he⟩ <;>
      simp_all [Except.map]
  | setProgramCounter v => simp_all [runAction]
  | setOwn v => simp_all [runAction]

section AnyPrivateState
variable {H K : Type}

@[simp] theorem mapReply_status (enc : H → K) (r : HandlerReplyOver H) : (mapReply enc r).status = r.status := rfl
@[simp] theorem mapReply_actions (enc : H → K) (r : HandlerReplyOver H) : (mapReply enc r).actions = r.actions.map (mapAction enc) := rfl
@[simp] theorem mapHandlerState_unimplCount (enc : H → K) (hs : HandlerStateOver H) :
    (mapHandlerState enc hs).unimplCount = hs.unimplCount := rfl
@[simp] theorem mapHandlerState_own (enc : H → K) (hs : HandlerStateOver H) : (mapHandlerState enc hs).own = enc hs.own := rfl

/-- Reading a code back gives the private state it was made from. -/
theorem mapHandlerState_readback {enc : H → K} {dec : K → H} (h : ∀ x, dec (enc x) = x) (hs : HandlerStateOver H) :
    mapHandlerState dec (mapHandlerState enc hs) = hs := by
  simp [mapHandlerState, h]

end AnyPrivateState

/-- The state with the handlers' own part written: what a setOwn effect leaves (R183 (d)). -/
def withOwn (v : PrivateState) (s : State) : State := s.setHandlerState { s.handlerState with own := v }

@[simp] theorem withOwn_withOwn (v w : PrivateState) (s : State) : withOwn v (withOwn w s) = withOwn v s := rfl

/-- A begin with nothing in flight succeeds, and with a transaction in flight faults (R110, R111): a handler's begin as well. -/
theorem runAction_begin_busy {a : Addr} {d : Byte} {s : State} (h : s.core.busy = true) :
    runAction (.beginRead a) s = .error (raiseBeginBusy .beginRead s) ∧
      runAction (.beginWrite a d) s = .error (raiseBeginBusy .beginWrite s) := by
  simp [runAction, beginRead, beginWrite, h]

/-- A handler's step with no transaction of its direction in flight faults (R112, R113). -/
theorem runAction_stepRead_idle {s : State} (h : s.core.readInFlight = false) :
    runAction .stepRead s = .error (raiseStepIdle .stepRead s) := by
  simp [runAction, stepRead, h, Except.map]

theorem runAction_stepWrite_idle {s : State} (h : s.core.writeInFlight = false) :
    runAction .stepWrite s = .error (raiseStepIdle .stepWrite s) := by
  simp [runAction, stepWrite, h, Except.map]

/-- Every fault of a handler effect is raised in the state the effect found (R202). -/
theorem runAction_error {a : HandlerAction} {s : State} {f : Fault} (h : runAction a s = .error f) :
    ∃ c, f = raiseBeginBusy c s ∨ f = raiseStepIdle c s := by
  cases a with
  | beginRead x =>
    rcases beginRead_cases h with ⟨_, hr⟩ | ⟨_, hr⟩ <;> cases hr
    exact ⟨_, .inl rfl⟩
  | beginWrite x d =>
    rcases beginWrite_cases h with ⟨_, hr⟩ | ⟨_, hr⟩ <;> cases hr
    exact ⟨_, .inl rfl⟩
  | stepRead =>
    rcases stepRead_cases (r := stepRead s) rfl with ⟨_, _, he⟩ | ⟨_, _, he⟩ | ⟨_, he⟩ <;> rw [runAction, he] at h <;> cases h
    exact ⟨_, .inr rfl⟩
  | stepWrite =>
    rcases stepWrite_cases (r := stepWrite s) rfl with ⟨_, _, he⟩ | ⟨_, _, he⟩ | ⟨_, he⟩ <;> rw [runAction, he] at h <;> cases h
    exact ⟨_, .inr rfl⟩
  | setProgramCounter v => cases h
  | setOwn v => cases h

/-- The handlers' own part plays no role in an effect on the block: the effect goes the same way with another value there. -/
theorem runAction_withOwn {a : HandlerAction} (ha : ∀ v, a ≠ .setOwn v) (w : PrivateState) {s t : State} (h : runAction a s = .ok t) :
    runAction a (withOwn w s) = .ok (withOwn w t) := by
  rcases runAction_cases h with ⟨x, rfl, hb, rfl⟩ | ⟨x, d, rfl, hb, rfl⟩ | ⟨rfl, hr, h7, rfl⟩ | ⟨rfl, hr, h7, rfl⟩ | ⟨rfl, hr, h7, rfl⟩ |
    ⟨rfl, hr, h7, rfl⟩ | ⟨v, rfl, rfl⟩ | ⟨v, rfl, rfl⟩
  · simp [runAction, beginRead, withOwn, hb]; rfl
  · simp [runAction, beginWrite, withOwn, hb]; rfl
  · simp [runAction, stepRead, atRowSeven, withOwn, hr, h7, Except.map]; rfl
  · simp [runAction, stepRead, atRowSeven, withOwn, hr, h7, Except.map]; rfl
  · simp [runAction, stepWrite, atRowSeven, withOwn, hr, h7, Except.map]; rfl
  · simp [runAction, stepWrite, atRowSeven, withOwn, hr, h7, Except.map]; rfl
  · rfl
  · exact absurd rfl (ha v)

/-- The same for a fault: it has the same code and leaves the same block. -/
theorem runAction_withOwn_error {a : HandlerAction} (w : PrivateState) {s : State} {f : Fault} (h : runAction a s = .error f) :
    ∃ g, runAction a (withOwn w s) = .error g ∧ g.code = f.code ∧ g.left = withOwn w f.left := by
  cases a with
  | beginRead x =>
    rcases beginRead_cases h with ⟨_, hr⟩ | ⟨hb, hr⟩ <;> cases hr
    exact ⟨_, (runAction_begin_busy (s := withOwn w s) (d := 0#8) hb).1, rfl, rfl⟩
  | beginWrite x d =>
    rcases beginWrite_cases h with ⟨_, hr⟩ | ⟨hb, hr⟩ <;> cases hr
    exact ⟨_, (runAction_begin_busy (s := withOwn w s) (a := x) hb).2, rfl, rfl⟩
  | stepRead =>
    rcases stepRead_cases (r := stepRead s) rfl with ⟨_, _, he⟩ | ⟨_, _, he⟩ | ⟨hr, he⟩ <;> rw [runAction, he] at h <;> cases h
    exact ⟨_, runAction_stepRead_idle hr, rfl, rfl⟩
  | stepWrite =>
    rcases stepWrite_cases (r := stepWrite s) rfl with ⟨_, _, he⟩ | ⟨_, _, he⟩ | ⟨hr, he⟩ <;> rw [runAction, he] at h <;> cases h
    exact ⟨_, runAction_stepWrite_idle hr, rfl, rfl⟩
  | setProgramCounter v => cases h
  | setOwn v => cases h

end Sys2Proof.Machine
end

