-- ==== Sys2Proof/Laws/Tick.lean ====
section
/-! SUPPORT. What a handler invocation and a tick can do, said once each. -/

namespace Sys2Proof.Machine

/-- Taking the listed answer, if there is one, changes the list of answers only. -/
theorem dispatchReply_state (op : Byte) (s : State) :
    (dispatchReply op s).2 = s ∨ ∃ l, (dispatchReply op s).2 = s.setHandlerReplies l := by
  unfold dispatchReply
  cases h : s.handlerReplies <;> simp

/-- With an answer listed, it is the next answer, and the others stay. -/
theorem dispatchReply_listed {op : Byte} {s : State} {r : HandlerReply} {rest : List HandlerReply} (h : s.handlerReplies = r :: rest) :
    dispatchReply op s = (r, s.setHandlerReplies rest) := by
  simp [dispatchReply, h]

/-- With none listed, the parameter DISPATCH answers. -/
theorem dispatchReply_none {op : Byte} {s : State} (h : s.handlerReplies = []) :
    dispatchReply op s = (Config.dispatch op s.core s.pins s.handlerState, s) := by
  simp [dispatchReply, h]

/-- Everything an invocation of a handler of 0x01 to 0xFF that does not fault can do (R186, R187). -/
theorem invokeOpcode_cases {op : Byte} {s t : State} (h : invokeOpcode op s = .ok t) :
    (Config.unimpl op = true ∧ t = invokeUnimplemented Config.unimplMore s) ∨
      (Config.unimpl op = false ∧ ∃ u, runActions (dispatchReply op s).1.actions (dispatchReply op s).2 = .ok u ∧
        t = u.setHandlerReply (some (dispatchReply op s).1.status)) := by
  unfold invokeOpcode invokeDispatch at h
  cases hu : Config.unimpl op <;> simp [hu] at h ⊢
  · cases hr : runActions (dispatchReply op s).1.actions (dispatchReply op s).2 <;> simp [hr] at h ⊢
    exact h.symm
  · exact h.symm

/-- An invocation faults only where one of the answer's effects does. -/
theorem invokeOpcode_error {op : Byte} {s : State} {f : Fault} (h : invokeOpcode op s = .error f) :
    Config.unimpl op = false ∧ runActions (dispatchReply op s).1.actions (dispatchReply op s).2 = .error f := by
  unfold invokeOpcode invokeDispatch at h
  cases hu : Config.unimpl op <;> simp [hu] at h ⊢
  cases hr : runActions (dispatchReply op s).1.actions (dispatchReply op s).2 <;> simp [hr] at h ⊢
  exact h

/-- Everything an opcode's row that answers a next state can have done: NOP's reply, or an invocation (R185 to R187). -/
theorem exec_opcode_next {i : Instr} {s t : State} (hi : i.opcode ≠ none) (h : exec i s = .next t) :
    s.faultRecord = none ∧
      ((i = .nop ∧ t = s.setHandlerReply (some .finalCycle)) ∨ ∃ op, i.opcode = some op ∧ op ≠ 0#8 ∧ invokeOpcode op s = .ok t) := by
  obtain ⟨op, hop⟩ := Option.ne_none_iff_exists'.mp hi
  by_cases h0 : op = 0#8
  · subst h0
    cases eq_nop_of_opcode hop
    obtain ⟨hf, he⟩ := guarded_next (show guarded s _ = _ from h)
    cases he
    exact ⟨hf, .inl ⟨rfl, rfl⟩⟩
  · rw [exec_of_opcode hop h0] at h
    obtain ⟨hf, he⟩ := guarded_next h
    exact ⟨hf, .inr ⟨op, hop, h0, he⟩⟩

/-- A tick's ending: the outcome of the rest of an EXECUTE tick is a next state only where handler and fetch succeeded. -/
theorem finishExecuteTick_next {o : Host.Outcome State Fault Refusal} {t : State} (h : finishExecuteTick o = .next t) :
    ∃ u v, o = .next u ∧ fetchAfterHandler u = .ok v ∧ t = advance v := by
  cases o with
  | next u =>
    simp only [finishExecuteTick, endTick] at h
    cases hv : fetchAfterHandler u <;> simp [hv, complete, Except.map] at h
    exact ⟨u, _, rfl, hv, h.symm⟩
  | fault f => simp [finishExecuteTick] at h
  | refused r => simp [finishExecuteTick] at h

/-- Everything a tick that answers a next state can have done (R150): one case per mode. -/
theorem tick_next {s t : State} (h : exec .tick s = .next t) :
    (s.core.topState = .fetch ∧ s.faultRecord = none ∧ ∃ v, fetchStep s = .ok v ∧ t = advance v) ∨
      (s.core.topState = .execute ∧
        ∃ u v, exec (decodeOpcode s.core.instructionLatch) s = .next u ∧ fetchAfterHandler u = .ok v ∧ t = advance v) ∨
      (s.core.topState = .test ∧ s.faultRecord = none ∧ t = advance s) := by
  have h : execTick s = .next t := h
  unfold execTick at h
  cases hm : s.core.topState <;> simp only [hm] at h
  · obtain ⟨hf, h⟩ := guarded_next h
    unfold endTick at h
    cases hv : fetchStep s <;> simp [hv, Except.map] at h
    exact .inl ⟨rfl, hf, _, rfl, h.symm⟩
  · obtain ⟨u, v, h₁, h₂, h₃⟩ := finishExecuteTick_next h
    exact .inr (.inl ⟨rfl, u, v, by rw [← handler_eq_exec, h₁], h₂, h₃⟩)
  · obtain ⟨hf, h⟩ := guarded_next h
    simp [endTick, Except.map] at h
    exact .inr (.inr ⟨rfl, hf, h.symm⟩)

/-- The fetch after a handler: none on MORE_CYCLES, FetchStep on FINAL_CYCLE (R156, R158). -/
theorem fetchAfterHandler_cases {s : State} {r : Except Fault State} (h : fetchAfterHandler s = r) :
    (s.handlerReply = some .finalCycle ∧ fetchStep s = r) ∨ (s.handlerReply ≠ some .finalCycle ∧ r = .ok s) := by
  unfold fetchAfterHandler at h
  split at h <;> simp_all

end Sys2Proof.Machine
end

