-- ==== Sys2Proof/Laws/Exec.lean ====
section
/-! SUPPORT. exec over all instructions: one case analysis, what each step command that succeeds has done, and runs of commands. -/

namespace Sys2Proof.Machine

/-- An instruction is an opcode's row or one of the ten commands (R74, R76). -/
theorem instr_cases (i : Instr) :
    i.opcode ≠ none ∨ i = .tick ∨ i = .reset ∨ i = .enterTest ∨ (∃ a, i = .beginRead a) ∨ (∃ a d, i = .beginWrite a d) ∨
      i = .stepRead ∨ i = .stepWrite ∨ i = .advance ∨ (∃ d, i = .driveData d) ∨ (∃ w, i = .harnessSet w) := by
  cases i <;> simp [Instr.opcode]

/-- The row the decoder gives for a byte is an opcode's row. -/
theorem decodeOpcode_isOpcode (op : Byte) : (decodeOpcode op).opcode ≠ none := by
  simp [decodeOpcode_opcode]

/-- An instruction that answers a next state ran with no fault recorded (R202). -/
theorem exec_next_live {i : Instr} {s t : State} (h : exec i s = .next t) : s.faultRecord = none := by
  rcases instr_cases i with ho | rfl | rfl | rfl | ⟨a, rfl⟩ | ⟨a, d, rfl⟩ | rfl | rfl | rfl | ⟨d, rfl⟩ | ⟨w, rfl⟩
  · exact (exec_opcode_next ho h).1
  · rcases tick_next h with ⟨_, h, _⟩ | ⟨_, u, v, hu, _⟩ | ⟨_, h, _⟩
    · exact h
    · exact (exec_opcode_next (decodeOpcode_isOpcode _) hu).1
    · exact h
  all_goals exact (ifLive_next (show ifLive s _ = _ from h)).1

/-- A tick in EXECUTE is the latched row's meaning and then the rest of the tick (R155, R157). -/
theorem exec_tick_execute {s : State} (hm : s.core.topState = .execute) :
    exec .tick s = finishExecuteTick (exec (decodeOpcode s.core.instructionLatch) s) := by
  rw [← handler_eq_exec]
  simp only [exec, execTick, hm]

/-- Everything STEP_READ that answers a next state has done (R112). -/
theorem exec_stepRead_next {s t : State} (h : exec .stepRead s = .next t) :
    s.faultRecord = none ∧ s.core.readInFlight = true ∧
      t = ((performRow .read s).setReadInFlight (decide (s.core.halfCycle ≠ 7#3))).setStepResult
        (some (decide (s.core.halfCycle ≠ 7#3))) := by
  obtain ⟨hf, h⟩ := guarded_next (show guarded s _ = _ from h)
  rcases stepRead_cases (r := stepRead s) rfl with ⟨hr, h7, he⟩ | ⟨hr, h7, he⟩ | ⟨hr, he⟩ <;> simp [keepStepResult, he, Except.map] at h
  · exact ⟨hf, hr, by simp [h7, h]⟩
  · exact ⟨hf, hr, by simp [h7, ← h, State.setReadInFlight, performRow_eq, hr]⟩

/-- Everything STEP_WRITE that answers a next state has done (R113). -/
theorem exec_stepWrite_next {s t : State} (h : exec .stepWrite s = .next t) :
    s.faultRecord = none ∧ s.core.writeInFlight = true ∧
      t = ((performRow .write s).setWriteInFlight (decide (s.core.halfCycle ≠ 7#3))).setStepResult
        (some (decide (s.core.halfCycle ≠ 7#3))) := by
  obtain ⟨hf, h⟩ := guarded_next (show guarded s _ = _ from h)
  rcases stepWrite_cases (r := stepWrite s) rfl with ⟨hr, h7, he⟩ | ⟨hr, h7, he⟩ | ⟨hr, he⟩ <;> simp [keepStepResult, he, Except.map] at h
  · exact ⟨hf, hr, by simp [h7, h]⟩
  · exact ⟨hf, hr, by simp [h7, ← h, State.setWriteInFlight, performRow_eq, hr]⟩

/-- A step is one instruction, run in the same state but for the list of coming commands. -/
theorem step_eq_exec (s : State) : ∃ i u, step s = exec i u ∧ (u = s ∨ ∃ l, u = s.setCommands l) := by
  unfold step nextCommand
  cases s.commands with
  | nil => exact ⟨_, _, rfl, .inl rfl⟩
  | cons c rest => exact ⟨_, _, rfl, .inr ⟨rest, rfl⟩⟩

/-- A run of two lists of commands is the run of the first, then the run of the second. -/
theorem runCommands_append (cs ds : List Command) (s : State) :
    runCommands (cs ++ ds) s =
      match runCommands cs s with
      | .next t => runCommands ds t
      | .fault f => .fault f
      | .refused r => .refused r := by
  induction cs generalizing s with
  | nil => rfl
  | cons c rest ih =>
    simp only [List.cons_append, runCommands]
    cases exec c.toInstr s <;> simp [ih]

theorem steppedTicks_cons (c : Command) (e : Option Byte) (rest : List (Option Byte)) :
    steppedTicks c (e :: rest) = environmentTurn e ++ ([c, .tick] ++ steppedTicks c rest) := by
  simp [steppedTicks]

theorem drivenTicks_cons (e : Option Byte) (rest : List (Option Byte)) :
    drivenTicks (e :: rest) = environmentTurn e ++ ([.tick] ++ drivenTicks rest) := by
  simp [drivenTicks]

end Sys2Proof.Machine
end

