-- ==== Sys2Proof/Laws/PerInstr.lean ====
section
/-! SUPPORT. Statements made per instruction. The family Encoding: the bytes the encoder gives an instruction, followed by any other
bytes, decode to that instruction and leave those bytes; an instruction without bytes is one of the ten commands. -/

namespace Sys2Proof.Laws

/-- The instruction has no bytes and is a command (R74), or its bytes decode to it (R70, R71). -/
def Encoding.Statement (i : Instr) : Prop :=
  (∀ rest : List Byte, encode i ≠ [] → decode (encode i ++ rest) = .ok (i, rest)) ∧
    (encode i = [] ↔ i.opcode = none)

/-- An instruction whose opcode selects its own row meets the statement. -/
theorem Encoding.of_opcode {i : Instr} {op : Byte} (h : i.opcode = some op) (hd : decodeOpcode op = i) : Encoding.Statement i := by
  simp [Encoding.Statement, encode, h, decode, hd]

/-- An instruction without an opcode meets the statement. -/
theorem Encoding.of_none {i : Instr} (h : i.opcode = none) : Encoding.Statement i := by
  simp [Encoding.Statement, encode, h]

theorem Encoding.nop : Encoding.Statement .nop := Encoding.of_opcode rfl rfl
theorem Encoding.op01 : Encoding.Statement .op01 := Encoding.of_opcode rfl rfl
theorem Encoding.op02 : Encoding.Statement .op02 := Encoding.of_opcode rfl rfl
theorem Encoding.op03 : Encoding.Statement .op03 := Encoding.of_opcode rfl rfl
theorem Encoding.op04 : Encoding.Statement .op04 := Encoding.of_opcode rfl rfl
theorem Encoding.op05 : Encoding.Statement .op05 := Encoding.of_opcode rfl rfl
theorem Encoding.op06 : Encoding.Statement .op06 := Encoding.of_opcode rfl rfl
theorem Encoding.op07 : Encoding.Statement .op07 := Encoding.of_opcode rfl rfl
theorem Encoding.op08 : Encoding.Statement .op08 := Encoding.of_opcode rfl rfl
theorem Encoding.op09 : Encoding.Statement .op09 := Encoding.of_opcode rfl rfl
theorem Encoding.op0A : Encoding.Statement .op0A := Encoding.of_opcode rfl rfl
theorem Encoding.op0B : Encoding.Statement .op0B := Encoding.of_opcode rfl rfl
theorem Encoding.op0C : Encoding.Statement .op0C := Encoding.of_opcode rfl rfl
theorem Encoding.op0D : Encoding.Statement .op0D := Encoding.of_opcode rfl rfl
theorem Encoding.op0E : Encoding.Statement .op0E := Encoding.of_opcode rfl rfl
theorem Encoding.op0F : Encoding.Statement .op0F := Encoding.of_opcode rfl rfl
theorem Encoding.op10 : Encoding.Statement .op10 := Encoding.of_opcode rfl rfl
theorem Encoding.op11 : Encoding.Statement .op11 := Encoding.of_opcode rfl rfl
theorem Encoding.op12 : Encoding.Statement .op12 := Encoding.of_opcode rfl rfl
theorem Encoding.op13 : Encoding.Statement .op13 := Encoding.of_opcode rfl rfl
theorem Encoding.op14 : Encoding.Statement .op14 := Encoding.of_opcode rfl rfl
theorem Encoding.op15 : Encoding.Statement .op15 := Encoding.of_opcode rfl rfl
theorem Encoding.op16 : Encoding.Statement .op16 := Encoding.of_opcode rfl rfl
theorem Encoding.op17 : Encoding.Statement .op17 := Encoding.of_opcode rfl rfl
theorem Encoding.op18 : Encoding.Statement .op18 := Encoding.of_opcode rfl rfl
theorem Encoding.op19 : Encoding.Statement .op19 := Encoding.of_opcode rfl rfl
theorem Encoding.op1A : Encoding.Statement .op1A := Encoding.of_opcode rfl rfl
theorem Encoding.op1B : Encoding.Statement .op1B := Encoding.of_opcode rfl rfl
theorem Encoding.op1C : Encoding.Statement .op1C := Encoding.of_opcode rfl rfl
theorem Encoding.op1D : Encoding.Statement .op1D := Encoding.of_opcode rfl rfl
theorem Encoding.op1E : Encoding.Statement .op1E := Encoding.of_opcode rfl rfl
theorem Encoding.op1F : Encoding.Statement .op1F := Encoding.of_opcode rfl rfl
theorem Encoding.op20 : Encoding.Statement .op20 := Encoding.of_opcode rfl rfl
theorem Encoding.op21 : Encoding.Statement .op21 := Encoding.of_opcode rfl rfl
theorem Encoding.op22 : Encoding.Statement .op22 := Encoding.of_opcode rfl rfl
theorem Encoding.op23 : Encoding.Statement .op23 := Encoding.of_opcode rfl rfl
theorem Encoding.op24 : Encoding.Statement .op24 := Encoding.of_opcode rfl rfl
theorem Encoding.op25 : Encoding.Statement .op25 := Encoding.of_opcode rfl rfl
theorem Encoding.op26 : Encoding.Statement .op26 := Encoding.of_opcode rfl rfl
theorem Encoding.op27 : Encoding.Statement .op27 := Encoding.of_opcode rfl rfl
theorem Encoding.op28 : Encoding.Statement .op28 := Encoding.of_opcode rfl rfl
theorem Encoding.op29 : Encoding.Statement .op29 := Encoding.of_opcode rfl rfl
theorem Encoding.op2A : Encoding.Statement .op2A := Encoding.of_opcode rfl rfl
theorem Encoding.op2B : Encoding.Statement .op2B := Encoding.of_opcode rfl rfl
theorem Encoding.op2C : Encoding.Statement .op2C := Encoding.of_opcode rfl rfl
theorem Encoding.op2D : Encoding.Statement .op2D := Encoding.of_opcode rfl rfl
theorem Encoding.op2E : Encoding.Statement .op2E := Encoding.of_opcode rfl rfl
theorem Encoding.op2F : Encoding.Statement .op2F := Encoding.of_opcode rfl rfl
theorem Encoding.op30 : Encoding.Statement .op30 := Encoding.of_opcode rfl rfl
theorem Encoding.op31 : Encoding.Statement .op31 := Encoding.of_opcode rfl rfl
theorem Encoding.op32 : Encoding.Statement .op32 := Encoding.of_opcode rfl rfl
theorem Encoding.op33 : Encoding.Statement .op33 := Encoding.of_opcode rfl rfl
theorem Encoding.op34 : Encoding.Statement .op34 := Encoding.of_opcode rfl rfl
theorem Encoding.op35 : Encoding.Statement .op35 := Encoding.of_opcode rfl rfl
theorem Encoding.op36 : Encoding.Statement .op36 := Encoding.of_opcode rfl rfl
theorem Encoding.op37 : Encoding.Statement .op37 := Encoding.of_opcode rfl rfl
theorem Encoding.op38 : Encoding.Statement .op38 := Encoding.of_opcode rfl rfl
theorem Encoding.op39 : Encoding.Statement .op39 := Encoding.of_opcode rfl rfl
theorem Encoding.op3A : Encoding.Statement .op3A := Encoding.of_opcode rfl rfl
theorem Encoding.op3B : Encoding.Statement .op3B := Encoding.of_opcode rfl rfl
theorem Encoding.op3C : Encoding.Statement .op3C := Encoding.of_opcode rfl rfl
theorem Encoding.op3D : Encoding.Statement .op3D := Encoding.of_opcode rfl rfl
theorem Encoding.op3E : Encoding.Statement .op3E := Encoding.of_opcode rfl rfl
theorem Encoding.op3F : Encoding.Statement .op3F := Encoding.of_opcode rfl rfl
theorem Encoding.op40 : Encoding.Statement .op40 := Encoding.of_opcode rfl rfl
theorem Encoding.op41 : Encoding.Statement .op41 := Encoding.of_opcode rfl rfl
theorem Encoding.op42 : Encoding.Statement .op42 := Encoding.of_opcode rfl rfl
theorem Encoding.op43 : Encoding.Statement .op43 := Encoding.of_opcode rfl rfl
theorem Encoding.op44 : Encoding.Statement .op44 := Encoding.of_opcode rfl rfl
theorem Encoding.op45 : Encoding.Statement .op45 := Encoding.of_opcode rfl rfl
theorem Encoding.op46 : Encoding.Statement .op46 := Encoding.of_opcode rfl rfl
theorem Encoding.op47 : Encoding.Statement .op47 := Encoding.of_opcode rfl rfl
theorem Encoding.op48 : Encoding.Statement .op48 := Encoding.of_opcode rfl rfl
theorem Encoding.op49 : Encoding.Statement .op49 := Encoding.of_opcode rfl rfl
theorem Encoding.op4A : Encoding.Statement .op4A := Encoding.of_opcode rfl rfl
theorem Encoding.op4B : Encoding.Statement .op4B := Encoding.of_opcode rfl rfl
theorem Encoding.op4C : Encoding.Statement .op4C := Encoding.of_opcode rfl rfl
theorem Encoding.op4D : Encoding.Statement .op4D := Encoding.of_opcode rfl rfl
theorem Encoding.op4E : Encoding.Statement .op4E := Encoding.of_opcode rfl rfl
theorem Encoding.op4F : Encoding.Statement .op4F := Encoding.of_opcode rfl rfl
theorem Encoding.op50 : Encoding.Statement .op50 := Encoding.of_opcode rfl rfl
theorem Encoding.op51 : Encoding.Statement .op51 := Encoding.of_opcode rfl rfl
theorem Encoding.op52 : Encoding.Statement .op52 := Encoding.of_opcode rfl rfl
theorem Encoding.op53 : Encoding.Statement .op53 := Encoding.of_opcode rfl rfl
theorem Encoding.op54 : Encoding.Statement .op54 := Encoding.of_opcode rfl rfl
theorem Encoding.op55 : Encoding.Statement .op55 := Encoding.of_opcode rfl rfl
theorem Encoding.op56 : Encoding.Statement .op56 := Encoding.of_opcode rfl rfl
theorem Encoding.op57 : Encoding.Statement .op57 := Encoding.of_opcode rfl rfl
theorem Encoding.op58 : Encoding.Statement .op58 := Encoding.of_opcode rfl rfl
theorem Encoding.op59 : Encoding.Statement .op59 := Encoding.of_opcode rfl rfl
theorem Encoding.op5A : Encoding.Statement .op5A := Encoding.of_opcode rfl rfl
theorem Encoding.op5B : Encoding.Statement .op5B := Encoding.of_opcode rfl rfl
theorem Encoding.op5C : Encoding.Statement .op5C := Encoding.of_opcode rfl rfl
theorem Encoding.op5D : Encoding.Statement .op5D := Encoding.of_opcode rfl rfl
theorem Encoding.op5E : Encoding.Statement .op5E := Encoding.of_opcode rfl rfl
theorem Encoding.op5F : Encoding.Statement .op5F := Encoding.of_opcode rfl rfl
theorem Encoding.op60 : Encoding.Statement .op60 := Encoding.of_opcode rfl rfl
theorem Encoding.op61 : Encoding.Statement .op61 := Encoding.of_opcode rfl rfl
theorem Encoding.op62 : Encoding.Statement .op62 := Encoding.of_opcode rfl rfl
theorem Encoding.op63 : Encoding.Statement .op63 := Encoding.of_opcode rfl rfl
theorem Encoding.op64 : Encoding.Statement .op64 := Encoding.of_opcode rfl rfl
theorem Encoding.op65 : Encoding.Statement .op65 := Encoding.of_opcode rfl rfl
theorem Encoding.op66 : Encoding.Statement .op66 := Encoding.of_opcode rfl rfl
theorem Encoding.op67 : Encoding.Statement .op67 := Encoding.of_opcode rfl rfl
theorem Encoding.op68 : Encoding.Statement .op68 := Encoding.of_opcode rfl rfl
theorem Encoding.op69 : Encoding.Statement .op69 := Encoding.of_opcode rfl rfl
theorem Encoding.op6A : Encoding.Statement .op6A := Encoding.of_opcode rfl rfl
theorem Encoding.op6B : Encoding.Statement .op6B := Encoding.of_opcode rfl rfl
theorem Encoding.op6C : Encoding.Statement .op6C := Encoding.of_opcode rfl rfl
theorem Encoding.op6D : Encoding.Statement .op6D := Encoding.of_opcode rfl rfl
theorem Encoding.op6E : Encoding.Statement .op6E := Encoding.of_opcode rfl rfl
theorem Encoding.op6F : Encoding.Statement .op6F := Encoding.of_opcode rfl rfl
theorem Encoding.op70 : Encoding.Statement .op70 := Encoding.of_opcode rfl rfl
theorem Encoding.op71 : Encoding.Statement .op71 := Encoding.of_opcode rfl rfl
theorem Encoding.op72 : Encoding.Statement .op72 := Encoding.of_opcode rfl rfl
theorem Encoding.op73 : Encoding.Statement .op73 := Encoding.of_opcode rfl rfl
theorem Encoding.op74 : Encoding.Statement .op74 := Encoding.of_opcode rfl rfl
theorem Encoding.op75 : Encoding.Statement .op75 := Encoding.of_opcode rfl rfl
theorem Encoding.op76 : Encoding.Statement .op76 := Encoding.of_opcode rfl rfl
theorem Encoding.op77 : Encoding.Statement .op77 := Encoding.of_opcode rfl rfl
theorem Encoding.op78 : Encoding.Statement .op78 := Encoding.of_opcode rfl rfl
theorem Encoding.op79 : Encoding.Statement .op79 := Encoding.of_opcode rfl rfl
theorem Encoding.op7A : Encoding.Statement .op7A := Encoding.of_opcode rfl rfl
theorem Encoding.op7B : Encoding.Statement .op7B := Encoding.of_opcode rfl rfl
theorem Encoding.op7C : Encoding.Statement .op7C := Encoding.of_opcode rfl rfl
theorem Encoding.op7D : Encoding.Statement .op7D := Encoding.of_opcode rfl rfl
theorem Encoding.op7E : Encoding.Statement .op7E := Encoding.of_opcode rfl rfl
theorem Encoding.op7F : Encoding.Statement .op7F := Encoding.of_opcode rfl rfl
theorem Encoding.op80 : Encoding.Statement .op80 := Encoding.of_opcode rfl rfl
theorem Encoding.op81 : Encoding.Statement .op81 := Encoding.of_opcode rfl rfl
theorem Encoding.op82 : Encoding.Statement .op82 := Encoding.of_opcode rfl rfl
theorem Encoding.op83 : Encoding.Statement .op83 := Encoding.of_opcode rfl rfl
theorem Encoding.op84 : Encoding.Statement .op84 := Encoding.of_opcode rfl rfl
theorem Encoding.op85 : Encoding.Statement .op85 := Encoding.of_opcode rfl rfl
theorem Encoding.op86 : Encoding.Statement .op86 := Encoding.of_opcode rfl rfl
theorem Encoding.op87 : Encoding.Statement .op87 := Encoding.of_opcode rfl rfl
theorem Encoding.op88 : Encoding.Statement .op88 := Encoding.of_opcode rfl rfl
theorem Encoding.op89 : Encoding.Statement .op89 := Encoding.of_opcode rfl rfl
theorem Encoding.op8A : Encoding.Statement .op8A := Encoding.of_opcode rfl rfl
theorem Encoding.op8B : Encoding.Statement .op8B := Encoding.of_opcode rfl rfl
theorem Encoding.op8C : Encoding.Statement .op8C := Encoding.of_opcode rfl rfl
theorem Encoding.op8D : Encoding.Statement .op8D := Encoding.of_opcode rfl rfl
theorem Encoding.op8E : Encoding.Statement .op8E := Encoding.of_opcode rfl rfl
theorem Encoding.op8F : Encoding.Statement .op8F := Encoding.of_opcode rfl rfl
theorem Encoding.op90 : Encoding.Statement .op90 := Encoding.of_opcode rfl rfl
theorem Encoding.op91 : Encoding.Statement .op91 := Encoding.of_opcode rfl rfl
theorem Encoding.op92 : Encoding.Statement .op92 := Encoding.of_opcode rfl rfl
theorem Encoding.op93 : Encoding.Statement .op93 := Encoding.of_opcode rfl rfl
theorem Encoding.op94 : Encoding.Statement .op94 := Encoding.of_opcode rfl rfl
theorem Encoding.op95 : Encoding.Statement .op95 := Encoding.of_opcode rfl rfl
theorem Encoding.op96 : Encoding.Statement .op96 := Encoding.of_opcode rfl rfl
theorem Encoding.op97 : Encoding.Statement .op97 := Encoding.of_opcode rfl rfl
theorem Encoding.op98 : Encoding.Statement .op98 := Encoding.of_opcode rfl rfl
theorem Encoding.op99 : Encoding.Statement .op99 := Encoding.of_opcode rfl rfl
theorem Encoding.op9A : Encoding.Statement .op9A := Encoding.of_opcode rfl rfl
theorem Encoding.op9B : Encoding.Statement .op9B := Encoding.of_opcode rfl rfl
theorem Encoding.op9C : Encoding.Statement .op9C := Encoding.of_opcode rfl rfl
theorem Encoding.op9D : Encoding.Statement .op9D := Encoding.of_opcode rfl rfl
theorem Encoding.op9E : Encoding.Statement .op9E := Encoding.of_opcode rfl rfl
theorem Encoding.op9F : Encoding.Statement .op9F := Encoding.of_opcode rfl rfl
theorem Encoding.opA0 : Encoding.Statement .opA0 := Encoding.of_opcode rfl rfl
theorem Encoding.opA1 : Encoding.Statement .opA1 := Encoding.of_opcode rfl rfl
theorem Encoding.opA2 : Encoding.Statement .opA2 := Encoding.of_opcode rfl rfl
theorem Encoding.opA3 : Encoding.Statement .opA3 := Encoding.of_opcode rfl rfl
theorem Encoding.opA4 : Encoding.Statement .opA4 := Encoding.of_opcode rfl rfl
theorem Encoding.opA5 : Encoding.Statement .opA5 := Encoding.of_opcode rfl rfl
theorem Encoding.opA6 : Encoding.Statement .opA6 := Encoding.of_opcode rfl rfl
theorem Encoding.opA7 : Encoding.Statement .opA7 := Encoding.of_opcode rfl rfl
theorem Encoding.opA8 : Encoding.Statement .opA8 := Encoding.of_opcode rfl rfl
theorem Encoding.opA9 : Encoding.Statement .opA9 := Encoding.of_opcode rfl rfl
theorem Encoding.opAA : Encoding.Statement .opAA := Encoding.of_opcode rfl rfl
theorem Encoding.opAB : Encoding.Statement .opAB := Encoding.of_opcode rfl rfl
theorem Encoding.opAC : Encoding.Statement .opAC := Encoding.of_opcode rfl rfl
theorem Encoding.opAD : Encoding.Statement .opAD := Encoding.of_opcode rfl rfl
theorem Encoding.opAE : Encoding.Statement .opAE := Encoding.of_opcode rfl rfl
theorem Encoding.opAF : Encoding.Statement .opAF := Encoding.of_opcode rfl rfl
theorem Encoding.opB0 : Encoding.Statement .opB0 := Encoding.of_opcode rfl rfl
theorem Encoding.opB1 : Encoding.Statement .opB1 := Encoding.of_opcode rfl rfl
theorem Encoding.opB2 : Encoding.Statement .opB2 := Encoding.of_opcode rfl rfl
theorem Encoding.opB3 : Encoding.Statement .opB3 := Encoding.of_opcode rfl rfl
theorem Encoding.opB4 : Encoding.Statement .opB4 := Encoding.of_opcode rfl rfl
theorem Encoding.opB5 : Encoding.Statement .opB5 := Encoding.of_opcode rfl rfl
theorem Encoding.opB6 : Encoding.Statement .opB6 := Encoding.of_opcode rfl rfl
theorem Encoding.opB7 : Encoding.Statement .opB7 := Encoding.of_opcode rfl rfl
theorem Encoding.opB8 : Encoding.Statement .opB8 := Encoding.of_opcode rfl rfl
theorem Encoding.opB9 : Encoding.Statement .opB9 := Encoding.of_opcode rfl rfl
theorem Encoding.opBA : Encoding.Statement .opBA := Encoding.of_opcode rfl rfl
theorem Encoding.opBB : Encoding.Statement .opBB := Encoding.of_opcode rfl rfl
theorem Encoding.opBC : Encoding.Statement .opBC := Encoding.of_opcode rfl rfl
theorem Encoding.opBD : Encoding.Statement .opBD := Encoding.of_opcode rfl rfl
theorem Encoding.opBE : Encoding.Statement .opBE := Encoding.of_opcode rfl rfl
theorem Encoding.opBF : Encoding.Statement .opBF := Encoding.of_opcode rfl rfl
theorem Encoding.opC0 : Encoding.Statement .opC0 := Encoding.of_opcode rfl rfl
theorem Encoding.opC1 : Encoding.Statement .opC1 := Encoding.of_opcode rfl rfl
theorem Encoding.opC2 : Encoding.Statement .opC2 := Encoding.of_opcode rfl rfl
theorem Encoding.opC3 : Encoding.Statement .opC3 := Encoding.of_opcode rfl rfl
theorem Encoding.opC4 : Encoding.Statement .opC4 := Encoding.of_opcode rfl rfl
theorem Encoding.opC5 : Encoding.Statement .opC5 := Encoding.of_opcode rfl rfl
theorem Encoding.opC6 : Encoding.Statement .opC6 := Encoding.of_opcode rfl rfl
theorem Encoding.opC7 : Encoding.Statement .opC7 := Encoding.of_opcode rfl rfl
theorem Encoding.opC8 : Encoding.Statement .opC8 := Encoding.of_opcode rfl rfl
theorem Encoding.opC9 : Encoding.Statement .opC9 := Encoding.of_opcode rfl rfl
theorem Encoding.opCA : Encoding.Statement .opCA := Encoding.of_opcode rfl rfl
theorem Encoding.opCB : Encoding.Statement .opCB := Encoding.of_opcode rfl rfl
theorem Encoding.opCC : Encoding.Statement .opCC := Encoding.of_opcode rfl rfl
theorem Encoding.opCD : Encoding.Statement .opCD := Encoding.of_opcode rfl rfl
theorem Encoding.opCE : Encoding.Statement .opCE := Encoding.of_opcode rfl rfl
theorem Encoding.opCF : Encoding.Statement .opCF := Encoding.of_opcode rfl rfl
theorem Encoding.opD0 : Encoding.Statement .opD0 := Encoding.of_opcode rfl rfl
theorem Encoding.opD1 : Encoding.Statement .opD1 := Encoding.of_opcode rfl rfl
theorem Encoding.opD2 : Encoding.Statement .opD2 := Encoding.of_opcode rfl rfl
theorem Encoding.opD3 : Encoding.Statement .opD3 := Encoding.of_opcode rfl rfl
theorem Encoding.opD4 : Encoding.Statement .opD4 := Encoding.of_opcode rfl rfl
theorem Encoding.opD5 : Encoding.Statement .opD5 := Encoding.of_opcode rfl rfl
theorem Encoding.opD6 : Encoding.Statement .opD6 := Encoding.of_opcode rfl rfl
theorem Encoding.opD7 : Encoding.Statement .opD7 := Encoding.of_opcode rfl rfl
theorem Encoding.opD8 : Encoding.Statement .opD8 := Encoding.of_opcode rfl rfl
theorem Encoding.opD9 : Encoding.Statement .opD9 := Encoding.of_opcode rfl rfl
theorem Encoding.opDA : Encoding.Statement .opDA := Encoding.of_opcode rfl rfl
theorem Encoding.opDB : Encoding.Statement .opDB := Encoding.of_opcode rfl rfl
theorem Encoding.opDC : Encoding.Statement .opDC := Encoding.of_opcode rfl rfl
theorem Encoding.opDD : Encoding.Statement .opDD := Encoding.of_opcode rfl rfl
theorem Encoding.opDE : Encoding.Statement .opDE := Encoding.of_opcode rfl rfl
theorem Encoding.opDF : Encoding.Statement .opDF := Encoding.of_opcode rfl rfl
theorem Encoding.opE0 : Encoding.Statement .opE0 := Encoding.of_opcode rfl rfl
theorem Encoding.opE1 : Encoding.Statement .opE1 := Encoding.of_opcode rfl rfl
theorem Encoding.opE2 : Encoding.Statement .opE2 := Encoding.of_opcode rfl rfl
theorem Encoding.opE3 : Encoding.Statement .opE3 := Encoding.of_opcode rfl rfl
theorem Encoding.opE4 : Encoding.Statement .opE4 := Encoding.of_opcode rfl rfl
theorem Encoding.opE5 : Encoding.Statement .opE5 := Encoding.of_opcode rfl rfl
theorem Encoding.opE6 : Encoding.Statement .opE6 := Encoding.of_opcode rfl rfl
theorem Encoding.opE7 : Encoding.Statement .opE7 := Encoding.of_opcode rfl rfl
theorem Encoding.opE8 : Encoding.Statement .opE8 := Encoding.of_opcode rfl rfl
theorem Encoding.opE9 : Encoding.Statement .opE9 := Encoding.of_opcode rfl rfl
theorem Encoding.opEA : Encoding.Statement .opEA := Encoding.of_opcode rfl rfl
theorem Encoding.opEB : Encoding.Statement .opEB := Encoding.of_opcode rfl rfl
theorem Encoding.opEC : Encoding.Statement .opEC := Encoding.of_opcode rfl rfl
theorem Encoding.opED : Encoding.Statement .opED := Encoding.of_opcode rfl rfl
theorem Encoding.opEE : Encoding.Statement .opEE := Encoding.of_opcode rfl rfl
theorem Encoding.opEF : Encoding.Statement .opEF := Encoding.of_opcode rfl rfl
theorem Encoding.opF0 : Encoding.Statement .opF0 := Encoding.of_opcode rfl rfl
theorem Encoding.opF1 : Encoding.Statement .opF1 := Encoding.of_opcode rfl rfl
theorem Encoding.opF2 : Encoding.Statement .opF2 := Encoding.of_opcode rfl rfl
theorem Encoding.opF3 : Encoding.Statement .opF3 := Encoding.of_opcode rfl rfl
theorem Encoding.opF4 : Encoding.Statement .opF4 := Encoding.of_opcode rfl rfl
theorem Encoding.opF5 : Encoding.Statement .opF5 := Encoding.of_opcode rfl rfl
theorem Encoding.opF6 : Encoding.Statement .opF6 := Encoding.of_opcode rfl rfl
theorem Encoding.opF7 : Encoding.Statement .opF7 := Encoding.of_opcode rfl rfl
theorem Encoding.opF8 : Encoding.Statement .opF8 := Encoding.of_opcode rfl rfl
theorem Encoding.opF9 : Encoding.Statement .opF9 := Encoding.of_opcode rfl rfl
theorem Encoding.opFA : Encoding.Statement .opFA := Encoding.of_opcode rfl rfl
theorem Encoding.opFB : Encoding.Statement .opFB := Encoding.of_opcode rfl rfl
theorem Encoding.opFC : Encoding.Statement .opFC := Encoding.of_opcode rfl rfl
theorem Encoding.opFD : Encoding.Statement .opFD := Encoding.of_opcode rfl rfl
theorem Encoding.opFE : Encoding.Statement .opFE := Encoding.of_opcode rfl rfl
theorem Encoding.opFF : Encoding.Statement .opFF := Encoding.of_opcode rfl rfl
theorem Encoding.tick : Encoding.Statement (.tick) := Encoding.of_none rfl
theorem Encoding.reset : Encoding.Statement (.reset) := Encoding.of_none rfl
theorem Encoding.enterTest : Encoding.Statement (.enterTest) := Encoding.of_none rfl
theorem Encoding.beginRead (a : Addr) : Encoding.Statement (.beginRead a) := Encoding.of_none rfl
theorem Encoding.beginWrite (a : Addr) (d : Byte) : Encoding.Statement (.beginWrite a d) := Encoding.of_none rfl
theorem Encoding.stepRead : Encoding.Statement (.stepRead) := Encoding.of_none rfl
theorem Encoding.stepWrite : Encoding.Statement (.stepWrite) := Encoding.of_none rfl
theorem Encoding.advance : Encoding.Statement (.advance) := Encoding.of_none rfl
theorem Encoding.driveData (d : Byte) : Encoding.Statement (.driveData d) := Encoding.of_none rfl
theorem Encoding.harnessSet (w : HarnessWrite) : Encoding.Statement (.harnessSet w) := Encoding.of_none rfl

end Sys2Proof.Laws
end

