-- ==== Sys2Proof/Tests/Slice0.lean ====
section
/-! SUPPORT. The model's own tests: words written out from the opcode table, small steps with results taken from spec/95_test_vectors.md or
from the rules' own examples, and for each obligation with hypotheses a state and operands that meet them. -/

namespace Sys2Proof.Tests.Slice0

open Sys2Proof Sys2Proof.Machine

/-! ## Helpers -/

/-- A state in a mode, at a half-cycle, with the two in-flight flags, and otherwise as after power-on. -/
def st (m : TopState) (h : HalfCycle) (r w : Bool) : State :=
  { State.reset with
    core := { State.reset.core with topState := m, halfCycle := h, readInFlight := r, writeInFlight := w }
    pins := { State.reset.pins with phase := phaseOf h } }

/-- The core's columns of a trace line of spec/95_test_vectors.md: top_state, hc, PC, IR, AL, DL, rif, wif. -/
def coreLine (m : TopState) (h : HalfCycle) (pc : Addr) (ir : Byte) (al : Addr) (dl : Byte) (r w : Bool) : CoreState :=
  { programCounter := pc, instructionLatch := ir, addressLatch := al, dataLatch := dl, halfCycle := h, readInFlight := r,
    writeInFlight := w, topState := m }

/-- The pins' columns of a trace line: the address pins with A15, RD, WR, CS, data, phi. -/
def pinLine (a : Addr) (rd wr cs : Bool) (d : Byte) (phi : Bool) : PinSet :=
  { address := a, data := d, readStrobe := rd, writeStrobe := wr, chipSelect := cs, phase := phi }

/-- A state with the given core and pins. -/
def line (c : CoreState) (p : PinSet) : State := { State.reset with core := c, pins := p }

/-- The state `s` with an address and a byte latched. -/
def latched (a : Addr) (d : Byte) (s : State) : State := (s.setAddressLatch a).setDataLatch d

/-- The core after an outcome, if it is a next state. -/
def coreOf : Host.Outcome State Fault Refusal → Option CoreState
  | .next t => some t.core
  | .fault _ | .refused _ => none

/-- The pins after an outcome, if it is a next state. -/
def pinsOf : Host.Outcome State Fault Refusal → Option PinSet
  | .next t => some t.pins
  | .fault _ | .refused _ => none

/-- The step result after an outcome, if it is a next state. -/
def resultOf : Host.Outcome State Fault Refusal → Option Bool
  | .next t => t.stepResult
  | .fault _ | .refused _ => none

/-- The fault record and the core an outcome leaves, if it is a fault. -/
def faultOf : Host.Outcome State Fault Refusal → Option (Option FaultRecord × CoreState)
  | .fault f => some (f.left.faultRecord, f.left.core)
  | .next _ | .refused _ => none

/-! ## Well-formedness: every field the harness may not write is refused (R164) -/

theorem test_wf_half_cycle_refused : wellFormed (.harnessSet (.halfCycle 3#3)) = false := by decide
theorem test_wf_phase_refused : wellFormed (.harnessSet (.phase true)) = false := by decide
theorem test_wf_read_in_flight_refused : wellFormed (.harnessSet (.readInFlight true)) = false := by decide
theorem test_wf_write_in_flight_refused : wellFormed (.harnessSet (.writeInFlight true)) = false := by decide
theorem test_wf_top_state_refused : wellFormed (.harnessSet (.topState .fetch)) = false := by decide
theorem test_wf_data_latch_allowed : wellFormed (.harnessSet (.dataLatch 0x11#8)) = true := by decide

/-! ## Decoding: every row's byte, written out from the opcode table -/

theorem test_decode_row_0 : [0x00, 0x01, 0x02, 0x03, 0x04, 0x05, 0x06, 0x07, 0x08, 0x09, 0x0A, 0x0B, 0x0C, 0x0D, 0x0E, 0x0F].map (fun b : Byte => (decode [b]).toOption) =
    [.nop, .op01, .op02, .op03, .op04, .op05, .op06, .op07, .op08, .op09, .op0A, .op0B, .op0C, .op0D, .op0E, .op0F].map (fun i : Instr => some (i, [])) := by decide
theorem test_decode_row_1 : [0x10, 0x11, 0x12, 0x13, 0x14, 0x15, 0x16, 0x17, 0x18, 0x19, 0x1A, 0x1B, 0x1C, 0x1D, 0x1E, 0x1F].map (fun b : Byte => (decode [b]).toOption) =
    [.op10, .op11, .op12, .op13, .op14, .op15, .op16, .op17, .op18, .op19, .op1A, .op1B, .op1C, .op1D, .op1E, .op1F].map (fun i : Instr => some (i, [])) := by decide
theorem test_decode_row_2 : [0x20, 0x21, 0x22, 0x23, 0x24, 0x25, 0x26, 0x27, 0x28, 0x29, 0x2A, 0x2B, 0x2C, 0x2D, 0x2E, 0x2F].map (fun b : Byte => (decode [b]).toOption) =
    [.op20, .op21, .op22, .op23, .op24, .op25, .op26, .op27, .op28, .op29, .op2A, .op2B, .op2C, .op2D, .op2E, .op2F].map (fun i : Instr => some (i, [])) := by decide
theorem test_decode_row_3 : [0x30, 0x31, 0x32, 0x33, 0x34, 0x35, 0x36, 0x37, 0x38, 0x39, 0x3A, 0x3B, 0x3C, 0x3D, 0x3E, 0x3F].map (fun b : Byte => (decode [b]).toOption) =
    [.op30, .op31, .op32, .op33, .op34, .op35, .op36, .op37, .op38, .op39, .op3A, .op3B, .op3C, .op3D, .op3E, .op3F].map (fun i : Instr => some (i, [])) := by decide
theorem test_decode_row_4 : [0x40, 0x41, 0x42, 0x43, 0x44, 0x45, 0x46, 0x47, 0x48, 0x49, 0x4A, 0x4B, 0x4C, 0x4D, 0x4E, 0x4F].map (fun b : Byte => (decode [b]).toOption) =
    [.op40, .op41, .op42, .op43, .op44, .op45, .op46, .op47, .op48, .op49, .op4A, .op4B, .op4C, .op4D, .op4E, .op4F].map (fun i : Instr => some (i, [])) := by decide
theorem test_decode_row_5 : [0x50, 0x51, 0x52, 0x53, 0x54, 0x55, 0x56, 0x57, 0x58, 0x59, 0x5A, 0x5B, 0x5C, 0x5D, 0x5E, 0x5F].map (fun b : Byte => (decode [b]).toOption) =
    [.op50, .op51, .op52, .op53, .op54, .op55, .op56, .op57, .op58, .op59, .op5A, .op5B, .op5C, .op5D, .op5E, .op5F].map (fun i : Instr => some (i, [])) := by decide
theorem test_decode_row_6 : [0x60, 0x61, 0x62, 0x63, 0x64, 0x65, 0x66, 0x67, 0x68, 0x69, 0x6A, 0x6B, 0x6C, 0x6D, 0x6E, 0x6F].map (fun b : Byte => (decode [b]).toOption) =
    [.op60, .op61, .op62, .op63, .op64, .op65, .op66, .op67, .op68, .op69, .op6A, .op6B, .op6C, .op6D, .op6E, .op6F].map (fun i : Instr => some (i, [])) := by decide
theorem test_decode_row_7 : [0x70, 0x71, 0x72, 0x73, 0x74, 0x75, 0x76, 0x77, 0x78, 0x79, 0x7A, 0x7B, 0x7C, 0x7D, 0x7E, 0x7F].map (fun b : Byte => (decode [b]).toOption) =
    [.op70, .op71, .op72, .op73, .op74, .op75, .op76, .op77, .op78, .op79, .op7A, .op7B, .op7C, .op7D, .op7E, .op7F].map (fun i : Instr => some (i, [])) := by decide
theorem test_decode_row_8 : [0x80, 0x81, 0x82, 0x83, 0x84, 0x85, 0x86, 0x87, 0x88, 0x89, 0x8A, 0x8B, 0x8C, 0x8D, 0x8E, 0x8F].map (fun b : Byte => (decode [b]).toOption) =
    [.op80, .op81, .op82, .op83, .op84, .op85, .op86, .op87, .op88, .op89, .op8A, .op8B, .op8C, .op8D, .op8E, .op8F].map (fun i : Instr => some (i, [])) := by decide
theorem test_decode_row_9 : [0x90, 0x91, 0x92, 0x93, 0x94, 0x95, 0x96, 0x97, 0x98, 0x99, 0x9A, 0x9B, 0x9C, 0x9D, 0x9E, 0x9F].map (fun b : Byte => (decode [b]).toOption) =
    [.op90, .op91, .op92, .op93, .op94, .op95, .op96, .op97, .op98, .op99, .op9A, .op9B, .op9C, .op9D, .op9E, .op9F].map (fun i : Instr => some (i, [])) := by decide
theorem test_decode_row_A : [0xA0, 0xA1, 0xA2, 0xA3, 0xA4, 0xA5, 0xA6, 0xA7, 0xA8, 0xA9, 0xAA, 0xAB, 0xAC, 0xAD, 0xAE, 0xAF].map (fun b : Byte => (decode [b]).toOption) =
    [.opA0, .opA1, .opA2, .opA3, .opA4, .opA5, .opA6, .opA7, .opA8, .opA9, .opAA, .opAB, .opAC, .opAD, .opAE, .opAF].map (fun i : Instr => some (i, [])) := by decide
theorem test_decode_row_B : [0xB0, 0xB1, 0xB2, 0xB3, 0xB4, 0xB5, 0xB6, 0xB7, 0xB8, 0xB9, 0xBA, 0xBB, 0xBC, 0xBD, 0xBE, 0xBF].map (fun b : Byte => (decode [b]).toOption) =
    [.opB0, .opB1, .opB2, .opB3, .opB4, .opB5, .opB6, .opB7, .opB8, .opB9, .opBA, .opBB, .opBC, .opBD, .opBE, .opBF].map (fun i : Instr => some (i, [])) := by decide
theorem test_decode_row_C : [0xC0, 0xC1, 0xC2, 0xC3, 0xC4, 0xC5, 0xC6, 0xC7, 0xC8, 0xC9, 0xCA, 0xCB, 0xCC, 0xCD, 0xCE, 0xCF].map (fun b : Byte => (decode [b]).toOption) =
    [.opC0, .opC1, .opC2, .opC3, .opC4, .opC5, .opC6, .opC7, .opC8, .opC9, .opCA, .opCB, .opCC, .opCD, .opCE, .opCF].map (fun i : Instr => some (i, [])) := by decide
theorem test_decode_row_D : [0xD0, 0xD1, 0xD2, 0xD3, 0xD4, 0xD5, 0xD6, 0xD7, 0xD8, 0xD9, 0xDA, 0xDB, 0xDC, 0xDD, 0xDE, 0xDF].map (fun b : Byte => (decode [b]).toOption) =
    [.opD0, .opD1, .opD2, .opD3, .opD4, .opD5, .opD6, .opD7, .opD8, .opD9, .opDA, .opDB, .opDC, .opDD, .opDE, .opDF].map (fun i : Instr => some (i, [])) := by decide
theorem test_decode_row_E : [0xE0, 0xE1, 0xE2, 0xE3, 0xE4, 0xE5, 0xE6, 0xE7, 0xE8, 0xE9, 0xEA, 0xEB, 0xEC, 0xED, 0xEE, 0xEF].map (fun b : Byte => (decode [b]).toOption) =
    [.opE0, .opE1, .opE2, .opE3, .opE4, .opE5, .opE6, .opE7, .opE8, .opE9, .opEA, .opEB, .opEC, .opED, .opEE, .opEF].map (fun i : Instr => some (i, [])) := by decide
theorem test_decode_row_F : [0xF0, 0xF1, 0xF2, 0xF3, 0xF4, 0xF5, 0xF6, 0xF7, 0xF8, 0xF9, 0xFA, 0xFB, 0xFC, 0xFD, 0xFE, 0xFF].map (fun b : Byte => (decode [b]).toOption) =
    [.opF0, .opF1, .opF2, .opF3, .opF4, .opF5, .opF6, .opF7, .opF8, .opF9, .opFA, .opFB, .opFC, .opFD, .opFE, .opFF].map (fun i : Instr => some (i, [])) := by decide

/-- Bit by bit, from `match` of the table: 0xC3 is 1100 0011, its bit 0 last. -/
theorem test_decode_c3_bits : (decode [0b11000011#8, 0x50#8]).toOption = some (.opC3, [0x50#8]) := by decide
theorem test_decode_76_bits : (decode [0b01110110#8]).toOption = some (.op76, []) := by decide
theorem test_decode_no_byte : (decode []).toOption = none := by decide
theorem test_table_word_c3 : decodeTableWord 8 0xC3 = some .opC3 := by decide
theorem test_table_word_nop : decodeTableWord 8 0x00 = some .nop := by decide
theorem test_encode_c3 : encode .opC3 = [0b11000011#8] := by decide
theorem test_encode_command : encode .tick = [] := by decide

/-! ## The region function (V-REG-1) -/

/-- The addresses of V-REG-1. -/
def regionAddresses : List Addr :=
  [0x0000, 0x0150, 0x7FFF, 0x8000, 0x9FFF, 0xA000, 0xC000, 0xFDFF, 0xFE00, 0xFF80, 0xFFFF]

theorem test_region_hramIo : regionAddresses.map region =
    [.rom, .rom, .rom, .hramIo, .hramIo, .ram, .ram, .ram, .hramIo, .hramIo, .hramIo] := by decide
theorem test_region_ram : regionAddresses.map (regionWith .ram) =
    [.rom, .rom, .rom, .ram, .ram, .ram, .ram, .ram, .hramIo, .hramIo, .hramIo] := by decide
theorem test_region_rom : regionAddresses.map (regionWith .rom) =
    [.rom, .rom, .rom, .rom, .rom, .ram, .ram, .ram, .hramIo, .hramIo, .hramIo] := by decide

/-! ## The clock divider (V-DIV-1) -/

theorem test_advance_three : (coreOf (exec .advance (st .test 3 false false))).map CoreState.halfCycle = some 4#3 ∧
    (pinsOf (exec .advance (st .test 3 false false))).map PinSet.phase = some false := by decide
theorem test_advance_wraps : (coreOf (exec .advance (st .test 7 false false))).map CoreState.halfCycle = some 0#3 ∧
    (pinsOf (exec .advance (st .test 7 false false))).map PinSet.phase = some true := by decide

/-! ## Begins and steps (V-BUS, V-AL and the examples of R110 to R113) -/

/-- V-BUS-1: only the latch and the flag change. -/
theorem test_begin_read : coreOf (exec (.beginRead 0x0150) (st .test 0 false false)) =
    some (coreLine .test 0 0x0000 0x00 0x0150 0x00 true false) := by decide
/-- V-BUS-5: a read begin while a write is in flight. -/
theorem test_begin_read_busy : faultOf (exec (.beginRead 0x0150) (latched 0xC000 0x5A (st .test 0 false true))) =
    some (some { code := .beginBusy, command := .beginRead, halfCycle := 0 }, coreLine .test 0 0x0000 0x00 0xC000 0x5A false true) := by
  decide
/-- V-BUS-2: the byte is staged. -/
theorem test_begin_write : coreOf (exec (.beginWrite 0xC000 0x5A) (st .test 0 false false)) =
    some (coreLine .test 0 0x0000 0x00 0xC000 0x5A false true) := by decide
/-- V-BUS-4: a write begin while a read is in flight. -/
theorem test_begin_write_busy : faultOf (exec (.beginWrite 0xC000 0x5A) (latched 0x0150 0x00 (st .test 0 true false))) =
    some (some { code := .beginBusy, command := .beginWrite, halfCycle := 0 }, coreLine .test 0 0x0000 0x00 0x0150 0x00 true false) := by
  decide
/-- R112's example: row 6 samples 0x3C and the step answers true. -/
theorem test_step_read_samples :
    (coreOf (exec .stepRead ((latched 0x0150 0x00 (st .test 6 true false)).setPins (pinLine 0x0150 true true true 0x3C false)))).map
      CoreState.dataLatch = some 0x3C ∧
    resultOf (exec .stepRead (latched 0x0150 0x00 (st .test 6 true false))) = some true := by decide
/-- V-BUS-6: a step with nothing in flight. -/
theorem test_step_read_idle : faultOf (exec .stepRead (st .test 0 false false)) =
    some (some { code := .stepIdle, command := .stepRead, halfCycle := 0 }, coreLine .test 0 0x0000 0x00 0x0000 0x00 false false) := by
  decide
/-- R113's example, and line 4 of V-TR-4: row 3 of a RAM write pulls WR low and drives 0x5A. -/
theorem test_step_write_commits :
    pinsOf (exec .stepWrite ((latched 0xC000 0x5A (st .test 3 false true)).setPins (pinLine 0xC000 false true false 0xEE true))) =
      some (pinLine 0xC000 false false false 0x5A true) ∧
    resultOf (exec .stepWrite (latched 0xC000 0x5A (st .test 3 false true))) = some true := by decide
/-- V-BUS-7: a write step while only a read is in flight. -/
theorem test_step_write_idle : faultOf (exec .stepWrite (latched 0x0150 0x00 (st .test 0 true false))) =
    some (some { code := .stepIdle, command := .stepWrite, halfCycle := 0 }, coreLine .test 0 0x0000 0x00 0x0150 0x00 true false) := by
  decide

/-! ## The rows (V-TR-1, V-TR-4, V-TR-5 and V-TR-6 to V-TR-8) -/

/-- V-TR-1, lines 1 to 3: rows 0, 1 and 2 of a ROM read at 0x0150. -/
theorem test_rows_rom_read :
    rowPins .full .read .rom 0 0x0150 0x00 (pinLine 0x9234 true true true 0xA7 true) = pinLine 0x9234 false true true 0xA7 true ∧
    rowPins .full .read .rom 1 0x0150 0x00 (pinLine 0x9234 false true true 0xA7 true) = pinLine 0x8150 true true true 0xA7 true ∧
    rowPins .full .read .rom 2 0x0150 0x00 (pinLine 0x8150 true true true 0xA7 true) = pinLine 0x0150 true true true 0xA7 true := by
  decide
/-- V-TR-4, lines 2, 3 and 7: rows 1, 2 and 6 of a RAM write to 0xC000. -/
theorem test_rows_ram_write :
    rowPins .full .write .ram 1 0xC000 0x5A (pinLine 0x9234 false true true 0xEE true) = pinLine 0xC000 false true true 0xEE true ∧
    rowPins .full .write .ram 2 0xC000 0x5A (pinLine 0xC000 false true true 0xEE true) = pinLine 0xC000 false true false 0xEE true ∧
    rowPins .full .write .ram 6 0xC000 0x5A (pinLine 0xC000 false false false 0x5A false) = pinLine 0xC000 false true false 0x5A false := by
  decide
/-- V-TR-5, lines 2 and 3: rows 1 and 2 change nothing in the HRAM_IO class. -/
theorem test_rows_hramIo_read :
    rowPins .full .read .hramIo 1 0xFF80 0x00 (pinLine 0x9234 false true true 0x99 true) = pinLine 0x9234 false true true 0x99 true ∧
    rowPins .full .read .hramIo 2 0xFF80 0x00 (pinLine 0x9234 false true true 0x99 true) = pinLine 0x9234 false true true 0x99 true := by
  decide
/-- V-TR-6, V-TR-7, V-TR-8, line 4: row 3 of a write of 0xA5 to 0xFF80 for FULL, STROBE_ONLY and NONE. -/
theorem test_row_three_hramIo :
    rowPins .full .write .hramIo 3 0xFF80 0xA5 (pinLine 0x9234 false true true 0xEE true) = pinLine 0x9234 false false true 0xA5 true ∧
    rowPins .strobeOnly .write .hramIo 3 0xFF80 0xA5 (pinLine 0x9234 false true true 0xEE true) =
      pinLine 0x9234 false false true 0xEE true ∧
    rowPins .none .write .hramIo 3 0xFF80 0xA5 (pinLine 0x9234 false true true 0xEE true) = pinLine 0x9234 false true true 0xEE true := by
  decide

/-! ## Ticks (V-L1-6, V-FE-3, V-FE-4, V-FE-5, V-FE-6, V-FE-7) -/

/-- V-L1-6, line 8: the first fetch completes and enters EXECUTE. -/
theorem test_tick_completes_first_fetch :
    coreOf (exec .tick (line (coreLine .fetch 7 0x0101 0x00 0x0100 0x00 true false) (pinLine 0x0100 true true true 0x00 false))) =
      some (coreLine .execute 0 0x0101 0x00 0x0100 0x00 false false) := by decide
/-- V-L1-6, line 16: NOP's last tick latches the next opcode, and the mode stays EXECUTE. -/
theorem test_tick_completes_overlapped_fetch :
    coreOf (exec .tick (line (coreLine .execute 7 0x0102 0x00 0x0101 0x3E true false) (pinLine 0x0101 true true true 0x3E false))) =
      some (coreLine .execute 0 0x0102 0x3E 0x0101 0x3E false false) := by decide
/-- V-FE-8: a tick in TEST only advances. -/
theorem test_tick_in_test : coreOf (exec .tick (latched 0x0000 0x00 (st .test 3 true false))) =
    some (coreLine .test 4 0x0000 0x00 0x0000 0x00 true false) := by decide

/-- P2, line 1: the fetch at 0xFFFF leaves the program counter at 0x0000. -/
theorem test_fetch_wraps_pc :
    ((fetchStep (launch 0xFFFF)).toOption.map State.core) = some (coreLine .fetch 0 0x0000 0x00 0xFFFF 0x00 true false) := by decide

/-- The end of an EXECUTE tick after the external handler of `op`, whatever UNIMPL is: what V-FE-3 to V-FE-6 fix by their fixture handlers. -/
def tickWith (op : Byte) (r : HandlerReply) (s : State) : Host.Outcome State Fault Refusal :=
  finishExecuteTick (complete (invokeDispatch op (s.setHandlerReplies [r])))

/-- V-FE-3, line 9: FetchStep takes the handler's read for the fetch, and the program counter stays. -/
theorem test_fetch_adopts_handlers_read :
    coreOf (tickWith 0x10 { actions := [.beginRead 0x0150, .stepRead], status := .finalCycle }
      (line (coreLine .execute 0 0x0101 0x10 0x0100 0x10 false false) (pinLine 0x0100 true true true 0x10 true))) =
      some (coreLine .execute 1 0x0101 0x10 0x0150 0x10 true false) := by decide
/-- V-FE-4, line 9: FINAL_CYCLE with the handler's write in flight faults, and nothing advances. -/
theorem test_fetch_faults_on_handlers_write :
    faultOf (tickWith 0x11 { actions := [.beginWrite 0xC000 0x11, .stepWrite], status := .finalCycle }
      (line (coreLine .execute 0 0x0101 0x11 0x0100 0x11 false false) (pinLine 0x0100 true true true 0x11 true))) =
      some (some { code := .beginBusy, command := .beginRead, halfCycle := 0 },
        coreLine .execute 0 0x0101 0x11 0xC000 0x11 false true) := by decide
/-- V-FE-5, line 16: a fetch begun at half-cycle 7 does not sample. -/
theorem test_fetch_at_half_cycle_seven :
    coreOf (tickWith 0x12 { actions := [.stepRead], status := .finalCycle }
      (line (coreLine .execute 7 0x0101 0x12 0x0150 0xAB true false) (pinLine 0x0150 true true true 0xAB false))) =
      some (coreLine .execute 0 0x0102 0xAB 0x0101 0xAB false false) := by decide
/-- V-FE-6, line 10: MORE_CYCLES skips the row of the fetch in flight. -/
theorem test_more_cycles_skips_the_row :
    pinsOf (tickWith 0x13 { actions := [], status := .moreCycles }
      (line (coreLine .execute 1 0x0102 0x13 0x0101 0x13 true false) (pinLine 0x8100 false true true 0x00 true))) =
      some (pinLine 0x8100 false true true 0x00 true) := by decide
/-- V-FE-7: with UNIMPL_MORE = 8 the eighth reply is MORE_CYCLES and the ninth FINAL_CYCLE. -/
theorem test_unimplemented_counts :
    (invokeUnimplemented 8 ((st .execute 7 false false).setHandlerState { unimplCount := 7, own := Config.handlersAtPowerOn })).handlerReply =
      some .moreCycles ∧
    (invokeUnimplemented 8 ((st .execute 0 false false).setHandlerState { unimplCount := 8, own := Config.handlersAtPowerOn })).handlerReply =
      some .finalCycle := by decide
/-- V-FE-7, line 24, and R186: the sixteenth tick ends the instance, and the next instance counts from 1. -/
theorem test_unimplemented_instance_ends :
    (invokeUnimplemented 8 ((st .execute 7 true false).setHandlerState { unimplCount := 15, own := Config.handlersAtPowerOn })).handlerState.unimplCount = 0 := by
  decide

/-! ## Reset, test mode, the environment and the harness -/

/-- V-RST-1: reset in the middle of a write. -/
theorem test_reset_mid_write :
    coreOf (exec .reset (line (coreLine .test 5 0x0000 0x00 0xC000 0x5A false true) (pinLine 0xC000 false false false 0x5A false))) =
      some (coreLine .fetch 0 0x0000 0x00 0x0000 0x00 false false) := by decide
theorem test_reset_pins_idle :
    (pinsOf (exec .reset (line (coreLine .test 5 0x0000 0x00 0xC000 0x5A false true) (pinLine 0xC000 false false false 0x5A false)))).map
      (fun p => (p.readStrobe, p.writeStrobe, p.chipSelect, p.phase)) = some (true, true, true, true) := by decide
/-- R163's example: the fetch stays in flight. -/
theorem test_enter_test : coreOf (exec .enterTest (st .execute 5 true false)) = some (coreLine .test 5 0x0000 0x00 0x0000 0x00 true false) := by
  decide
theorem test_drive_data : pinsOf (exec (.driveData 0xA7) (st .fetch 4 true false)) = some (pinLine 0x8000 true true true 0xA7 false) := by
  decide
/-- V-AL-2: HARNESS_SET data_latch 0x11. -/
theorem test_harness_set : (coreOf (exec (.harnessSet (.dataLatch 0x11)) (st .test 0 false false))).map CoreState.dataLatch = some 0x11 := by
  decide
theorem test_harness_set_outside_test : exec (.harnessSet (.dataLatch 0x11)) (st .fetch 0 false false) = .refused .harnessOutsideTest := rfl
/-- R185: NOP answers FINAL_CYCLE. -/
theorem test_nop : exec .nop (st .execute 0 false false) = .next ((st .execute 0 false false).setHandlerReply (some .finalCycle)) := rfl

/-- The opcode placed by withFetchWord runs in the very next step: NOP, whose fetch begins at once. -/
theorem test_with_fetch_word : coreOf (step (State.reset.withFetchWord 8 0x00)) = some (coreLine .execute 1 0x0001 0x00 0x0000 0x00 true false) := by
  decide

/-! ## Witnesses: for each obligation with hypotheses, a state and operands that meet them all -/

/-- A listed answer that does nothing. -/
def idleReply : HandlerReply := { actions := [], status := .finalCycle }

/-- A state in EXECUTE at a half-cycle with one answer listed and an opcode latched. -/
def withReply (r : HandlerReply) (h : HalfCycle) : State := ((st .execute h false false).setInstructionLatch 0x01).setHandlerReplies [r]

theorem witness_ResetGivesTheResetStateInEveryMode : (st .fetch 0 true false).faultRecord = none ∧ (st .execute 5 false true).faultRecord = none ∧
    (st .test 7 false false).faultRecord = none := by decide
theorem witness_PinsAreIdleRightAfterReset : ∃ t, exec .reset (st .execute 5 false true) = .next t := ⟨_, rfl⟩
theorem witness_AdvanceStepsHalfCycleAndPhase : (st .fetch 7 false false).faultRecord = none := by decide
theorem witness_EveryTickAdvancesOnceInEveryMode : (∃ t, exec .tick (st .fetch 0 false false) = .next t) ∧
    (∃ t, exec .tick (st .execute 0 false false) = .next t) ∧ ∃ t, exec .tick (st .test 7 false false) = .next t := ⟨⟨_, rfl⟩, ⟨_, rfl⟩, ⟨_, rfl⟩⟩
theorem witness_HalfCycleCountsTheTicksSinceReset : (∃ s t, exec .reset (st .test 3 false false) = .next s ∧ Command.reset ∉ [Command.enterTest, .tick, .tick, .tick, .tick] ∧
      runCommands [.enterTest, .tick, .tick, .tick, .tick] s = .next t) ∧
    Command.enterTest ≠ .tick ∧ Command.enterTest ≠ .reset ∧ ∃ t, exec Command.enterTest.toInstr (st .fetch 4 true false) = .next t := ⟨⟨_, _, rfl, by decide, rfl⟩, by decide, by decide, ⟨_, rfl⟩⟩
theorem witness_BeginReadStagesTheAddressOrFaults : ((st .test 0 false false).faultRecord = none ∧ (st .test 0 false false).core.readInFlight = false ∧
      (st .test 0 false false).core.writeInFlight = false) ∧
    ((st .test 0 true false).faultRecord = none ∧ (st .test 0 true false).core.readInFlight = true) ∧
    ((st .test 0 false true).faultRecord = none ∧ (st .test 0 false true).core.writeInFlight = true) := by decide
theorem witness_BeginWriteStagesAddressAndByteOrFaults : ((st .test 0 false false).faultRecord = none ∧ (st .test 0 false false).core.readInFlight = false ∧
      (st .test 0 false false).core.writeInFlight = false) ∧
    ((st .test 0 true false).faultRecord = none ∧ (st .test 0 true false).core.readInFlight = true) ∧
    ((st .test 0 false true).faultRecord = none ∧ (st .test 0 false true).core.writeInFlight = true) := by decide
theorem witness_StepReadPerformsTheRowOrFaults : ((st .test 6 true false).faultRecord = none ∧ (st .test 6 true false).core.readInFlight = true) ∧
    ((st .test 7 true false).faultRecord = none ∧ (st .test 7 true false).core.readInFlight = true) ∧
    ((st .test 0 false true).faultRecord = none ∧ (st .test 0 false true).core.readInFlight = false) := by decide
theorem witness_StepWritePerformsTheRowOrFaults : ((st .test 6 false true).faultRecord = none ∧ (st .test 6 false true).core.writeInFlight = true) ∧
    ((st .test 7 false true).faultRecord = none ∧ (st .test 7 false true).core.writeInFlight = true) ∧
    ((st .test 0 true false).faultRecord = none ∧ (st .test 0 true false).core.writeInFlight = false) := by decide
theorem witness_RegionsSplitTheAddressSpace : ((0x7FFF#16 : Addr).toNat ≤ 0x7FFF) ∧ (0x8000 ≤ (0x8000#16 : Addr).toNat ∧ (0x9FFF#16 : Addr).toNat ≤ 0x9FFF) ∧
    (0xA000 ≤ (0xA000#16 : Addr).toNat ∧ (0xFDFF#16 : Addr).toNat ≤ 0xFDFF) ∧ 0xFE00 ≤ (0xFE00#16 : Addr).toNat := by decide
theorem witness_RowZeroDeselectsAndAssertsRead : ((st .test 0 true false).faultRecord = none ∧ (st .test 0 true false).core.halfCycle = 0#3 ∧ (st .test 0 true false).core.readInFlight = true) ∧
    ((st .test 0 false true).faultRecord = none ∧ (st .test 0 false true).core.halfCycle = 0#3 ∧ (st .test 0 false true).core.writeInFlight = true) := by decide
theorem witness_RowOnePlacesTheLowAddress : ((st .test 1 true false).faultRecord = none ∧ (st .test 1 true false).core.halfCycle = 1#3 ∧ (st .test 1 true false).core.readInFlight = true) ∧
    ((st .test 1 false true).faultRecord = none ∧ (st .test 1 false true).core.halfCycle = 1#3 ∧ (st .test 1 false true).core.writeInFlight = true) ∧
    InRom 0x7FFF ∧ InRam 0xA000 ∧ InRam 0xFDFF ∧ InHramIoClass 0x8000 ∧ InHramIoClass 0x9FFF ∧ InHramIoClass 0xFE00 := by
  simp only [InRom, InRam, InHramIoClass]; decide
theorem witness_RowTwoSelectsTheRegion : ((st .test 2 true false).faultRecord = none ∧ (st .test 2 true false).core.halfCycle = 2#3 ∧ (st .test 2 true false).core.readInFlight = true) ∧
    ((st .test 2 false true).faultRecord = none ∧ (st .test 2 false true).core.halfCycle = 2#3 ∧ (st .test 2 false true).core.writeInFlight = true) ∧
    InRom 0x7FFF ∧ InRam 0xA000 ∧ InRam 0xFDFF ∧ InHramIoClass 0x8000 ∧ InHramIoClass 0x9FFF ∧ InHramIoClass 0xFE00 := by
  simp only [InRom, InRam, InHramIoClass]; decide
theorem witness_RowThreeCommitsTheWrite : ((st .test 3 true false).faultRecord = none ∧ (st .test 3 true false).core.halfCycle = 3#3 ∧ (st .test 3 true false).core.readInFlight = true) ∧
    ((st .test 3 false true).faultRecord = none ∧ (st .test 3 false true).core.halfCycle = 3#3 ∧ (st .test 3 false true).core.writeInFlight = true) ∧
    InRom 0x7FFF ∧ InRam 0xA000 ∧ InRam 0xFDFF ∧ InHramIoClass 0x8000 ∧ InHramIoClass 0x9FFF ∧ InHramIoClass 0xFE00 := by
  simp only [InRom, InRam, InHramIoClass]; decide
theorem witness_RowsFourAndFiveWait : ((st .test 4 true false).faultRecord = none ∧ (st .test 4 true false).core.halfCycle = 4#3 ∧ (st .test 4 true false).core.readInFlight = true) ∧
    ((st .test 4 false true).faultRecord = none ∧ (st .test 4 false true).core.halfCycle = 4#3 ∧ (st .test 4 false true).core.writeInFlight = true) ∧
    ((st .test 5 true false).faultRecord = none ∧ (st .test 5 true false).core.halfCycle = 5#3 ∧ (st .test 5 true false).core.readInFlight = true) ∧
    ((st .test 5 false true).faultRecord = none ∧ (st .test 5 false true).core.halfCycle = 5#3 ∧ (st .test 5 false true).core.writeInFlight = true) := by decide
theorem witness_RowSixSamplesOrReleasesWrite : ((st .test 6 true false).faultRecord = none ∧ (st .test 6 true false).core.halfCycle = 6#3 ∧ (st .test 6 true false).core.readInFlight = true) ∧
    ((st .test 6 false true).faultRecord = none ∧ (st .test 6 false true).core.halfCycle = 6#3 ∧ (st .test 6 false true).core.writeInFlight = true) := by decide
theorem witness_RowSevenCompletes : ((st .test 7 true false).faultRecord = none ∧ (st .test 7 true false).core.halfCycle = 7#3 ∧ (st .test 7 true false).core.readInFlight = true) ∧
    ((st .test 7 false true).faultRecord = none ∧ (st .test 7 false true).core.halfCycle = 7#3 ∧ (st .test 7 false true).core.writeInFlight = true) := by decide
theorem witness_SecondStepInATickRepeatsTheRow : (∃ t, exec .stepRead (st .test 6 true false) = .next t) ∧ (∃ t, exec .stepRead (st .test 7 true false) = .next t) ∧
    (∃ t, exec .stepWrite (st .test 3 false true) = .next t) ∧ ∃ t, exec .stepWrite (st .test 7 false true) = .next t := ⟨⟨_, rfl⟩, ⟨_, rfl⟩, ⟨_, rfl⟩, ⟨_, rfl⟩⟩
theorem witness_SteppedReadCompletesAtRowSeven : (let s := st .test 0 true false; let turns := List.replicate 8 (some 0xA7#8)
      s.faultRecord = none ∧ s.core.topState = .test ∧ s.core.readInFlight = true ∧ turns ≠ [] ∧ s.core.halfCycle.toNat + turns.length ≤ 8 ∧
        turns[6 - s.core.halfCycle.toNat]? = some (some 0xA7#8)) ∧
    (let s := st .test 7 true false; let turns : List (Option Byte) := [none]
      s.faultRecord = none ∧ s.core.topState = .test ∧ s.core.readInFlight = true ∧ turns ≠ [] ∧ s.core.halfCycle.toNat + turns.length ≤ 8) := by decide
theorem witness_SteppedWriteCompletesAtRowSeven : (let s := st .test 0 false true; let turns := List.replicate 8 (some 0xA7#8)
      s.faultRecord = none ∧ s.core.topState = .test ∧ s.core.writeInFlight = true ∧ turns ≠ [] ∧ s.core.halfCycle.toNat + turns.length ≤ 8 ∧
        turns[6 - s.core.halfCycle.toNat]? = some (some 0xA7#8)) ∧
    (let s := st .test 7 false true; let turns : List (Option Byte) := [none]
      s.faultRecord = none ∧ s.core.topState = .test ∧ s.core.writeInFlight = true ∧ turns ≠ [] ∧ s.core.halfCycle.toNat + turns.length ≤ 8) := by decide
theorem witness_OneSelectLinePerRegion : (st .test 0 false false).faultRecord = none ∧ (st .test 0 false false).core.topState = .test ∧
    (st .test 0 false false).core.readInFlight = false ∧ (st .test 0 false false).core.writeInFlight = false ∧
    (st .test 0 false false).core.halfCycle = 0#3 ∧ 1 ≤ [some 0xA7#8].length ∧ (List.replicate 8 (some 0xA7#8)).length ≤ 8 ∧
    InRom 0x7FFF ∧ InRam 0xA000 ∧ InRam 0xFDFF ∧ InHramIoClass 0x8000 ∧ InHramIoClass 0xFFFF := by
  simp only [InRom, InRam, InHramIoClass]; decide
theorem witness_PinsShowTheAddressFromRowTwo : (st .test 0 false false).faultRecord = none ∧ (st .test 0 false false).core.topState = .test ∧
    (st .test 0 false false).core.readInFlight = false ∧ (st .test 0 false false).core.writeInFlight = false ∧
    (st .test 0 false false).core.halfCycle = 0#3 ∧ 3 ≤ [none, some 0xA7#8, none].length ∧ (List.replicate 8 (some 0xA7#8)).length ≤ 8 ∧
    InRom 0x0000 ∧ InRom 0x7FFF ∧ InRam 0xA000 ∧ InRam 0xFDFF := by
  simp only [InRom, InRam]; decide
theorem witness_WriteByteIsOnThePinsFromRowThreeToFive : (st .test 0 false false).faultRecord = none ∧ (st .test 0 false false).core.topState = .test ∧
    (st .test 0 false false).core.readInFlight = false ∧ (st .test 0 false false).core.writeInFlight = false ∧
    (st .test 0 false false).core.halfCycle = 0#3 ∧ InRom 0x7FFF ∧ InRam 0xA000 ∧ InRam 0xFDFF ∧
    InHramIoClass 0x8000 ∧ InHramIoClass 0xFFFF ∧ 1 ≤ 1 ∧ 8 ≤ 8 := by
  simp only [InRom, InRam, InHramIoClass]; decide
theorem witness_PinLevelsLeftAfterATransaction : (st .test 0 false false).faultRecord = none ∧ (st .test 0 false false).core.topState = .test ∧
    (st .test 0 false false).core.readInFlight = false ∧ (st .test 0 false false).core.writeInFlight = false ∧
    (st .test 0 false false).core.halfCycle = 0#3 ∧ (List.replicate 8 (some 0xA7#8)).length = 8 ∧
    InRom 0x7FFF ∧ InRam 0xA000 ∧ InRam 0xFDFF ∧ InHramIoClass 0x8000 ∧ InHramIoClass 0xFFFF := by
  simp only [InRom, InRam, InHramIoClass]; decide
theorem witness_StepRunsTheNextCommand : (State.reset.setCommands [.enterTest, .tick]).commands = .enterTest :: [.tick] ∧ State.reset.commands = [] := by decide
theorem witness_StepRunsTheLatchedInstruction : (st .execute 7 true false).commands = [] ∧ (st .execute 7 true false).core.topState = .execute ∧
    (decode [(st .execute 7 true false).core.instructionLatch]) = .ok (.nop, []) := ⟨rfl, rfl, rfl⟩
theorem witness_FetchTickRunsTheFetchAlone : ((st .fetch 7 true false).faultRecord = none ∧ (st .fetch 7 true false).core.topState = .fetch ∧
      (st .fetch 7 true false).core.readInFlight = true) ∧
    ((st .fetch 0 false false).core.topState = .fetch ∧ (st .fetch 0 false false).core.writeInFlight = false) ∧
    ((st .fetch 0 false true).core.readInFlight = false ∧ (st .fetch 0 false true).core.writeInFlight = true) := by decide
/-- The premises of the FINAL_CYCLE clauses. MORE_CYCLES and a handler fault need a handler other than NOP, whose reply the open
parameters UNIMPL and DISPATCH decide: for an opcode outside UNIMPL the listed answer of `withReply` gives them. -/
theorem witness_ExecuteTickFollowsTheHandlersReply : ((st .execute 0 false false).faultRecord = none ∧ (st .execute 0 false false).core.topState = .execute ∧
      ∃ t, exec (decodeOpcode (st .execute 0 false false).core.instructionLatch) (st .execute 0 false false) = .next t ∧
        t.handlerReply = some .finalCycle ∧ t.core.writeInFlight = false) ∧
    ((st .execute 3 false true).faultRecord = none ∧ (st .execute 3 false true).core.topState = .execute ∧
      ∃ t, exec (decodeOpcode (st .execute 3 false true).core.instructionLatch) (st .execute 3 false true) = .next t ∧
        t.handlerReply = some .finalCycle ∧ t.core.readInFlight = false ∧ t.core.writeInFlight = true) := ⟨⟨rfl, rfl, _, rfl, rfl, rfl⟩, ⟨rfl, rfl, _, rfl, rfl, rfl, rfl⟩⟩
theorem witness_TestTickOnlyAdvances : (st .test 7 true false).faultRecord = none ∧ (st .test 7 true false).core.topState = .test := by decide
theorem witness_FirstFetchTakesEightTicks : (launch 0x0100).faultRecord = none ∧ (launch 0x0100).core.topState = .fetch ∧ (launch 0x0100).core.readInFlight = false ∧
    (launch 0x0100).core.writeInFlight = false ∧ (launch 0x0100).core.halfCycle = 0#3 ∧ 1 ≤ (List.replicate 8 (some 0xA7#8)).length ∧
    (List.replicate 8 (some 0xA7#8)).length ≤ 8 ∧ (List.replicate 8 (some 0xA7#8))[6]? = some (some 0xA7#8) := by decide
theorem witness_NopOverlapsTheNextFetch : (st .execute 0 false false).faultRecord = none ∧ (st .execute 0 false false).core.topState = .execute ∧
    (st .execute 0 false false).core.instructionLatch = 0x00#8 ∧ (st .execute 0 false false).core.readInFlight = false ∧
    (st .execute 0 false false).core.writeInFlight = false ∧ (st .execute 0 false false).core.halfCycle = 0#3 ∧
    1 ≤ (List.replicate 8 (some 0xA7#8)).length ∧ (List.replicate 8 (some 0xA7#8)).length ≤ 8 ∧ (List.replicate 8 (some 0xA7#8))[6]? = some (some 0xA7#8) := by decide
theorem witness_FetchBegunAtHalfCycleSevenDoesNotSample : (st .execute 7 false false).faultRecord = none ∧ (st .execute 7 false false).core.topState = .execute ∧
    (st .execute 7 false false).core.halfCycle = 7#3 ∧
    ∃ t, exec (decodeOpcode (st .execute 7 false false).core.instructionLatch) (st .execute 7 false false) = .next t ∧
      t.handlerReply = some .finalCycle ∧ t.core.readInFlight = false ∧ t.core.writeInFlight = false := ⟨rfl, rfl, rfl, _, rfl, rfl, rfl, rfl⟩
theorem witness_EnterTestSetsTheModeAndOnlyResetLeavesIt : (st .execute 5 true false).faultRecord = none ∧ (st .test 5 true false).faultRecord = none ∧
    (st .test 5 true false).core.topState = .test ∧ (∃ t, exec .tick (st .test 5 true false) = .next t) ∧ Instr.tick ≠ .reset := ⟨rfl, rfl, rfl, ⟨_, rfl⟩, by decide⟩
theorem witness_HarnessSetWritesTheNamedFieldInTest : (st .test 0 true false).faultRecord = none ∧ (st .test 0 true false).core.topState = .test := by decide
theorem witness_HarnessSetIsRefusedOutsideItsContract : ((st .execute 0 false false).faultRecord = none ∧ (st .execute 0 false false).core.topState ≠ .test) ∧
    ((st .test 0 false false).faultRecord = none ∧ (st .test 0 false false).core.topState = .test ∧
      wellFormed (.harnessSet (.halfCycle 7#3)) = false) := by decide
theorem witness_DriveDataWritesTheDataPinsAlone : (st .fetch 6 true false).faultRecord = none := by decide
theorem witness_NopAnswersFinalCycleAndChangesNothing : (st .execute 0 false false).faultRecord = none := by decide
theorem witness_OpcodesRunTheirHandler : Instr.op01.opcode = some 0x01#8 ∧ (0x01#8 : Byte) ≠ 0x00#8 ∧ Instr.opFF.opcode = some 0xFF#8 ∧
    (withReply idleReply 7).faultRecord = none ∧ (withReply idleReply 7).handlerReplies = idleReply :: [] ∧
    ∃ t, runActions idleReply.actions { withReply idleReply 7 with handlerReplies := [] } = .ok t := ⟨rfl, by decide, rfl, rfl, rfl, _, rfl⟩

/-- A state as `withReply` gives, with the two in-flight flags. -/
def busyReply (r : HandlerReply) (h : HalfCycle) (read write : Bool) : State :=
  ((withReply r h).setReadInFlight read).setWriteInFlight write

/-- Each clause at a boundary of its half-cycle: idle begins, steps of a transaction in flight, and the effects that need neither. -/
theorem witness_HandlersReadWriteJumpAndKeepPrivateState : Instr.opC3.opcode = some 0xC3#8 ∧ (0xC3#8 : Byte) ≠ 0x00#8 ∧ (withReply idleReply 0).faultRecord = none ∧
    (withReply idleReply 7).handlerReplies = { actions := [], status := .finalCycle } :: [] ∧
    (let s := withReply { actions := [.beginRead 0x0150], status := .moreCycles } 0;
      (s.core.readInFlight = false ∧ s.core.writeInFlight = false) ∧
        s.handlerReplies = { actions := [.beginRead 0x0150], status := .moreCycles } :: []) ∧
    (let s := withReply { actions := [.beginRead 0x0150, .stepRead], status := .moreCycles } 7;
      (s.core.readInFlight = false ∧ s.core.writeInFlight = false) ∧
        s.handlerReplies = { actions := [.beginRead 0x0150, .stepRead], status := .moreCycles } :: []) ∧
    (let s := busyReply { actions := [.stepRead], status := .moreCycles } 6 true false;
      s.core.readInFlight = true ∧ s.handlerReplies = { actions := [.stepRead], status := .moreCycles } :: []) ∧
    (let s := withReply { actions := [.beginWrite 0xC123 0x5A], status := .moreCycles } 0;
      (s.core.readInFlight = false ∧ s.core.writeInFlight = false) ∧
        s.handlerReplies = { actions := [.beginWrite 0xC123 0x5A], status := .moreCycles } :: []) ∧
    (let s := withReply { actions := [.beginWrite 0xC123 0x5A, .stepWrite], status := .moreCycles } 3;
      (s.core.readInFlight = false ∧ s.core.writeInFlight = false) ∧
        s.handlerReplies = { actions := [.beginWrite 0xC123 0x5A, .stepWrite], status := .moreCycles } :: []) ∧
    (let s := busyReply { actions := [.stepWrite], status := .moreCycles } 7 false true;
      s.core.writeInFlight = true ∧ s.handlerReplies = { actions := [.stepWrite], status := .moreCycles } :: []) ∧
    (withReply { actions := [.setProgramCounter 0x0150], status := .moreCycles } 7).handlerReplies =
      { actions := [.setProgramCounter 0x0150], status := .moreCycles } :: [] ∧
    (withReply { actions := [.setOwn Config.handlersAtPowerOn], status := .moreCycles } 7).handlerReplies =
      { actions := [.setOwn Config.handlersAtPowerOn], status := .moreCycles } :: [] := ⟨rfl, by decide, rfl, rfl, ⟨⟨rfl, rfl⟩, rfl⟩, ⟨⟨rfl, rfl⟩, rfl⟩, ⟨rfl, rfl⟩, ⟨⟨rfl, rfl⟩, rfl⟩, ⟨⟨rfl, rfl⟩, rfl⟩, ⟨rfl, rfl⟩, rfl, rfl⟩
theorem witness_HandlerFaultsEndTheInvocation : Instr.op11.opcode = some 0x11#8 ∧ (0x11#8 : Byte) ≠ 0x00#8 ∧
    (let s := busyReply { actions := [.beginRead 0x0150, .stepRead], status := .moreCycles } 0 true false;
      s.faultRecord = none ∧ s.core.readInFlight = true ∧
        s.handlerReplies = { actions := [.beginRead 0x0150, .stepRead], status := .moreCycles } :: []) ∧
    (let s := busyReply { actions := [.beginWrite 0xC000 0x11], status := .finalCycle } 7 false true;
      s.faultRecord = none ∧ s.core.writeInFlight = true ∧
        s.handlerReplies = { actions := [.beginWrite 0xC000 0x11], status := .finalCycle } :: []) ∧
    (let s := busyReply { actions := [.stepRead], status := .moreCycles } 7 false true;
      s.faultRecord = none ∧ s.core.readInFlight = false ∧ s.handlerReplies = { actions := [.stepRead], status := .moreCycles } :: []) ∧
    (let s := busyReply { actions := [.stepWrite], status := .moreCycles } 0 true false;
      s.faultRecord = none ∧ s.core.writeInFlight = false ∧ s.handlerReplies = { actions := [.stepWrite], status := .moreCycles } :: []) := by decide
theorem witness_HandlerEffectsHappenInOrder : Instr.opC3.opcode = some 0xC3#8 ∧ (0xC3#8 : Byte) ≠ 0x00#8 ∧
    (let r : HandlerReply := { actions := [.beginRead 0x0101, .stepRead, .setProgramCounter 0x0102], status := .moreCycles };
      (withReply r 0).faultRecord = none ∧
        (withReply r 0).handlerReplies = { actions := .beginRead 0x0101 :: [.stepRead, .setProgramCounter 0x0102], status := .moreCycles } :: []) := by decide

/-- The private state of the fixture handlers of spec/95_test_vectors.md: (k, done, lo), k up to 24. -/
structure FixtureState where
  k : Fin 25
  done : Bool
  lo : Byte
deriving DecidableEq, Repr

/-- The parameters of HandlerState can make it the fixture's type, with the fixture's power-on value (0, false, 0). -/
theorem test_fixture_state_is_a_handler_type :
    ∃ (start : List Byte) (legal : List Byte → Bool) (names : FixtureState ≃ HandlerTypeOf start legal),
      names { k := 0, done := false, lo := 0 } = ⟨start, .inl rfl⟩ :=
  have : Countable FixtureState := Function.Injective.countable (f := fun h => (h.k, h.done, h.lo.toNat)) fun a b h => by
    cases a; cases b; simpa [BitVec.toNat_inj] using h
  exists_handlerTypeOf FixtureState _

/-- FSTORE's first invocation, as a handler over the open type: it writes its private state, and begins and steps the write. -/
def fstoreFirst : HandlerOver PrivateState := fun _ _ hs =>
  { actions := [.setOwn hs.own, .beginWrite 0xC123 0x5A, .stepWrite], status := .moreCycles }

/-- The state in which FSTORE's opcode 0x02 is about to run and answers as FSTORE does; with a transaction in flight its begin faults. -/
def fstoreState (write : Bool) : State :=
  let s := (st .execute 0 false write).setInstructionLatch 0x02
  s.setHandlerReplies [carryHandler id id fstoreFirst s.core s.pins s.handlerState]

/-- Both clauses, for the open type itself: idle, the block's part of the answer runs; with a write in flight, it faults. -/
theorem witness_HandlersOverAnyPrivateStateRun :
    (∀ h : PrivateState, id (id h) = h) ∧ Instr.op02.opcode = some 0x02#8 ∧ (0x02#8 : Byte) ≠ 0x00#8 ∧
    (let hs : HandlerStateOver PrivateState := { unimplCount := 0, own := Config.handlersAtPowerOn };
     (∀ write, (fstoreState write).faultRecord = none ∧ (fstoreState write).handlerState = mapHandlerState id hs ∧
      (fstoreState write).handlerReplies = carryHandler id id fstoreFirst (fstoreState write).core
        (fstoreState write).pins (fstoreState write).handlerState :: []) ∧
      (∃ t, runActions (blockActions (fstoreFirst (fstoreState false).core (fstoreState false).pins hs).actions)
        { fstoreState false with handlerReplies := [] } = .ok t) ∧
      ∃ f, runActions (blockActions (fstoreFirst (fstoreState true).core (fstoreState true).pins hs).actions)
        { fstoreState true with handlerReplies := [] } = .error f) :=
  ⟨fun _ => rfl, rfl, by decide, fun _ => ⟨rfl, rfl, rfl⟩, ⟨_, rfl⟩, ⟨_, rfl⟩⟩

theorem witness_DispatchAnswersWhereNoneIsListed : Instr.op01.opcode = some 0x01#8 ∧ (0x01#8 : Byte) ≠ 0x00#8 ∧ (st .execute 0 false false).faultRecord = none ∧
    (st .execute 0 false false).handlerReplies = [] := by decide
theorem witness_HandlersKeepToTheirInterface : Instr.nop.opcode ≠ none ∧ ∃ t, exec .nop (st .execute 7 true false) = .next t := ⟨by decide, _, rfl⟩
theorem witness_DecodeOfEncodeIsTheInstruction : Instr.nop.opcode ≠ none ∧ Instr.opFF.opcode ≠ none := by decide
theorem witness_EveryStepKeepsTheInvariant : State.reset.Inv ∧ ∃ t, step State.reset = .next t := ⟨by unfold State.Inv; decide, _, rfl⟩
theorem witness_ModeChangesOnlyAsTheRulesSay : (∃ t, exec .tick (st .fetch 7 true false) = .next t ∧ t.core.topState ≠ (st .fetch 7 true false).core.topState) ∧
    (∃ t, exec .enterTest (st .execute 0 false false) = .next t ∧ t.core.topState ≠ (st .execute 0 false false).core.topState) ∧
    ∃ t, exec .reset (st .test 0 false false) = .next t ∧ t.core.topState ≠ (st .test 0 false false).core.topState := ⟨⟨_, rfl, by decide⟩, ⟨_, rfl, by decide⟩, ⟨_, rfl, by decide⟩⟩
theorem witness_OnlyResetEndsATransactionEarly : (∃ t, exec .tick (st .fetch 6 true false) = .next t) ∧ Instr.tick ≠ .reset ∧ (st .fetch 6 true false).core.halfCycle ≠ 7#3 ∧
    (st .fetch 6 true false).core.readInFlight = true ∧
    (∃ t, exec .stepWrite (st .test 0 false true) = .next t) ∧ Instr.stepWrite ≠ .reset ∧ (st .test 0 false true).core.halfCycle ≠ 7#3 ∧
    (st .test 0 false true).core.writeInFlight = true := ⟨⟨_, rfl⟩, by decide, by decide, rfl, ⟨_, rfl⟩, by decide, by decide, rfl⟩
theorem witness_FieldsChangeOnlyByTheirWriters : (∃ t, exec .tick (st .fetch 0 false false) = .next t ∧ t.core.programCounter ≠ (st .fetch 0 false false).core.programCounter ∧
      t.core.addressLatch = (st .fetch 0 false false).core.addressLatch ∧ t.core.halfCycle ≠ (st .fetch 0 false false).core.halfCycle ∧
      t.core.readInFlight ≠ (st .fetch 0 false false).core.readInFlight ∧ t.pins.readStrobe ≠ (st .fetch 0 false false).pins.readStrobe) ∧
    (∃ t, exec (.beginWrite 0xC000 0x5A) (st .test 0 false false) = .next t ∧
      t.core.addressLatch ≠ (st .test 0 false false).core.addressLatch ∧ t.core.dataLatch ≠ (st .test 0 false false).core.dataLatch ∧
      t.core.writeInFlight ≠ (st .test 0 false false).core.writeInFlight) ∧
    (∃ t, exec .stepWrite (latched 0xC000 0x5A (st .test 3 false true)) = .next t ∧
      t.pins.data ≠ (st .test 3 false true).pins.data ∧ t.pins.writeStrobe ≠ (st .test 3 false true).pins.writeStrobe) ∧
    (∃ t, exec .stepRead (latched 0xC000 0x00 (st .test 2 true false)) = .next t ∧ t.pins.chipSelect ≠ (st .test 2 true false).pins.chipSelect) ∧
    (∃ t, exec .stepRead (latched 0x0150 0x00 (st .test 1 true false)) = .next t ∧ t.pins.address ≠ (st .test 1 true false).pins.address) ∧
    (∃ t, exec .tick (latched 0x0150 0x3E (st .fetch 7 true false)) = .next t ∧
      t.core.instructionLatch ≠ (st .fetch 7 true false).core.instructionLatch ∧ t.core.topState ≠ (st .fetch 7 true false).core.topState) ∧
    ∃ t, exec .tick (st .test 3 false false) = .next t ∧ t.pins.phase ≠ (st .test 3 false false).pins.phase := by
  refine ⟨⟨_, rfl, ?_⟩, ⟨_, rfl, ?_⟩, ⟨_, rfl, ?_⟩, ⟨_, rfl, ?_⟩, ⟨_, rfl, ?_⟩, ⟨_, rfl, ?_⟩, ⟨_, rfl, ?_⟩⟩ <;> decide
theorem witness_FaultsRecordTheirCauseAndDoNotAdvance : (∃ f, exec .tick (st .execute 3 false true) = .fault f ∧ f.code = .beginBusy) ∧
    ∃ f, exec .stepRead (st .test 7 false false) = .fault f ∧ f.code = .stepIdle := ⟨⟨_, rfl, rfl⟩, ⟨_, rfl, rfl⟩⟩
theorem witness_NoCommandRunsAfterAFault : ((st .test 3 true false).setFaultRecord (some { code := .beginBusy, command := .beginRead, halfCycle := 3 })).faultRecord =
    some { code := .beginBusy, command := .beginRead, halfCycle := 3 } := by decide

/-- A command that is no tick, and ticks outside EXECUTE. -/
theorem witness_HandlerStateIsWrittenOnlyByHandlers :
    ((∃ t, exec .reset (st .execute 0 false false) = .next t) ∧ Instr.reset.opcode = none ∧ Instr.reset ≠ .tick) ∧
    ((∃ t, exec .tick (st .fetch 7 true false) = .next t) ∧ Instr.tick.opcode = none ∧ (st .fetch 7 true false).core.topState ≠ .execute) ∧
    ((∃ t, exec .tick (st .test 3 false false) = .next t) ∧ (st .test 3 false false).core.topState ≠ .execute) :=
  ⟨⟨⟨_, rfl⟩, rfl, by decide⟩, ⟨⟨_, rfl⟩, rfl, by decide⟩, ⟨_, rfl⟩, by decide⟩

/-- ExecuteTickFollowsTheHandlersReply, its MORE_CYCLES clause, for every UNIMPL that leaves 0x01 out. -/
theorem witness_ExecuteTick_more_cycles (h : Config.unimpl 0x01#8 = false) :
    ∃ t, exec .op01 (withReply { actions := [], status := .moreCycles } 0) = .next t ∧ t.handlerReply = some .moreCycles := by
  simp [exec, execOp01, guarded, ifLive, complete, invokeOpcode, h, invokeDispatch, dispatchReply, runActions, withReply, st,
    State.reset, State.setHandlerReply, State.setHandlerReplies, State.setInstructionLatch]

/-- ExecuteTickFollowsTheHandlersReply, its last clause, for every UNIMPL that leaves 0x01 out: a handler that steps an idle bus. -/
theorem witness_ExecuteTick_handler_fault (h : Config.unimpl 0x01#8 = false) :
    ∃ f, exec .op01 (withReply { actions := [.stepRead], status := .moreCycles } 0) = .fault f := by
  simp [exec, execOp01, guarded, ifLive, complete, invokeOpcode, h, invokeDispatch, dispatchReply, runActions, runAction, stepRead, Except.map,
    withReply, st, State.reset, State.setHandlerReplies, State.setInstructionLatch]


end Sys2Proof.Tests.Slice0
end

/-! Proofs of the family 00_scope: handlers over a private state of their own run in the machine (R7, R28, R182). -/

section
namespace Sys2Proof.Proofs

open Sys2Proof.Machine

/-! ## A sequence of effects, by its first -/

/-- The effects after one that did not fault run from the state it left (R182). -/
theorem runActions_cons_of_ok {a : HandlerAction} {s u : State} (h : runAction a s = .ok u) (rest : List HandlerAction) :
    runActions (a :: rest) s = runActions rest u := by
  simp only [runActions, h]

/-- A fault of the first effect ends the sequence (R202). -/
theorem runActions_cons_of_error {a : HandlerAction} {s : State} {f : Fault} (h : runAction a s = .error f) (rest : List HandlerAction) :
    runActions (a :: rest) s = .error f := by
  simp only [runActions, h]

/-- An effect that writes the handlers' own part faults nowhere (R183 (d)). -/
theorem runAction_setOwn (v : PrivateState) (s : State) : runAction (.setOwn v) s = .ok (withOwn v s) := rfl

/-- The count of the unimplemented-opcode handler is out of reach of every effect. -/
theorem runAction_unimplCount {a : HandlerAction} {s t : State} (h : runAction a s = .ok t) :
    s.handlerState.unimplCount = t.handlerState.unimplCount := by
  rcases runAction_cases h with ⟨_, _, _, rfl⟩ | ⟨_, _, _, _, rfl⟩ | ⟨_, _, _, rfl⟩ | ⟨_, _, _, rfl⟩ | ⟨_, _, _, rfl⟩ |
    ⟨_, _, _, rfl⟩ | ⟨_, _, rfl⟩ | ⟨_, _, rfl⟩ <;> rfl

theorem runActions_unimplCount {as : List HandlerAction} {s t : State} (h : runActions as s = .ok t) :
    s.handlerState.unimplCount = t.handlerState.unimplCount :=
  runActions_relates (R := fun s t => s.handlerState.unimplCount = t.handlerState.unimplCount)
    (fun _ => rfl) (fun _ _ _ => Eq.trans) (fun _ _ _ => runAction_unimplCount) as s t h

/-! ## The block's part and the private part of an answer -/

section AnyPrivateState
variable {H : Type}

/-- An effect on the block is the block's part of an answer whatever type the private state has (R183 (b), (c)). -/
theorem blockActions_cons_of_ne_setOwn {a : HandlerActionOver H} (ha : ∀ v, a ≠ .setOwn v) (enc : H → PrivateState)
    (rest : List (HandlerActionOver H)) : blockActions (a :: rest) = mapAction enc a :: blockActions rest := by
  cases a with
  | setOwn v => exact absurd rfl (ha v)
  | _ => rfl

/-- An effect on the block leaves the private state to the effects after it (R183 (d)). -/
theorem ownAfter_cons_of_ne_setOwn {a : HandlerActionOver H} (ha : ∀ v, a ≠ .setOwn v) (h : H) (rest : List (HandlerActionOver H)) :
    ownAfter h (a :: rest) = ownAfter h rest := by
  cases a with
  | setOwn v => exact absurd rfl (ha v)
  | _ => rfl

/-- Coding the private state makes no effect a write of it. -/
theorem mapAction_ne_setOwn {a : HandlerActionOver H} (ha : ∀ v, a ≠ .setOwn v) (enc : H → PrivateState) (w : PrivateState) :
    mapAction enc a ≠ .setOwn w := by
  cases a with
  | setOwn v => exact absurd rfl (ha v)
  | _ => simp [mapAction]

/-- Where the block's part of an answer runs, the coded answer runs to the same state, but with the code of the private state the answer leaves. -/
theorem runActions_mapAction_ok (enc : H → PrivateState) {as : List (HandlerActionOver H)} (h : H) {s t : State}
    (hrun : runActions (blockActions as) s = .ok t) :
    runActions (as.map (mapAction enc)) (withOwn (enc h) s) = .ok (withOwn (enc (ownAfter h as)) t) := by
  induction as generalizing h s with
  | nil =>
    cases hrun
    rfl
  | cons a rest ih =>
    rw [List.map_cons]
    by_cases hown : ∃ v, a = .setOwn v
    · obtain ⟨v, rfl⟩ := hown
      rw [mapAction, runActions_cons_of_ok (runAction_setOwn _ _), withOwn_withOwn]
      exact ih v hrun
    · have ha : ∀ v, a ≠ .setOwn v := not_exists.mp hown
      rw [blockActions_cons_of_ne_setOwn ha enc] at hrun
      cases hact : runAction (mapAction enc a) s with
      | error f => simp [runActions_cons_of_error hact] at hrun
      | ok u =>
        rw [runActions_cons_of_ok hact] at hrun
        rw [runActions_cons_of_ok (runAction_withOwn (mapAction_ne_setOwn ha enc) (enc h) hact), ownAfter_cons_of_ne_setOwn ha]
        exact ih h hrun

/-- Where the block's part of an answer faults, the coded answer faults with the same code, and leaves the same state but for the private part. -/
theorem runActions_mapAction_error (enc : H → PrivateState) {as : List (HandlerActionOver H)} (h : H) {s : State} {f : Fault}
    (hrun : runActions (blockActions as) s = .error f) :
    ∃ g w, runActions (as.map (mapAction enc)) (withOwn (enc h) s) = .error g ∧ g.code = f.code ∧ g.left = withOwn w f.left := by
  induction as generalizing h s with
  | nil => cases hrun
  | cons a rest ih =>
    rw [List.map_cons]
    by_cases hown : ∃ v, a = .setOwn v
    · obtain ⟨v, rfl⟩ := hown
      rw [mapAction, runActions_cons_of_ok (runAction_setOwn _ _), withOwn_withOwn]
      exact ih v hrun
    · have ha : ∀ v, a ≠ .setOwn v := not_exists.mp hown
      rw [blockActions_cons_of_ne_setOwn ha enc] at hrun
      cases hact : runAction (mapAction enc a) s with
      | error f' =>
        rw [runActions_cons_of_error hact] at hrun
        cases hrun
        obtain ⟨g, hg, hcode, hleft⟩ := runAction_withOwn_error (enc h) hact
        exact ⟨g, enc h, runActions_cons_of_error hg _, hcode, hleft⟩
      | ok u =>
        rw [runActions_cons_of_ok hact] at hrun
        rw [runActions_cons_of_ok (runAction_withOwn (mapAction_ne_setOwn ha enc) (enc h) hact)]
        exact ih h hrun

/-- In a state that holds the code of a private state, a carried handler answers with the code of the answer given there (R182). -/
theorem carryHandler_mapHandlerState {enc : H → PrivateState} {dec : PrivateState → H} (hdec : ∀ h, dec (enc h) = h) (handler : HandlerOver H)
    (c : CoreState) (p : PinSet) (hs : HandlerStateOver H) :
    carryHandler enc dec handler c p (mapHandlerState enc hs) = mapReply enc (handler c p hs) := by
  rw [carryHandler, mapHandlerState_readback hdec]

/-- A state that holds the code of a private state is unchanged by writing that code. -/
theorem withOwn_of_handlerState {enc : H → PrivateState} {hs : HandlerStateOver H} {s : State} (h : s.handlerState = mapHandlerState enc hs) :
    withOwn (enc hs.own) s = s := by
  have hown : enc hs.own = s.handlerState.own := by rw [h, mapHandlerState_own]
  rw [hown]
  rfl

end AnyPrivateState

/-! ## The row of an opcode -/

/-- With UNIMPL_MORE as the spec fixes it, the unimplemented-opcode handler answers FINAL_CYCLE at once (R186). -/
theorem invokeUnimplemented_unimplMore (s : State) : invokeUnimplemented Config.unimplMore s = afterUnimplemented s := by
  simp [invokeUnimplemented, unimplNextCount, unimplStatus, Config.unimplMore, afterUnimplemented, State.setHandlerState, State.setHandlerReply]

section OpcodeRow
variable {i : Instr} {op : Byte} {s : State} (hop : i.opcode = some op) (h0 : op ≠ 0x00#8) (hlive : s.faultRecord = none)
include hop h0 hlive

/-- The row of an opcode in UNIMPL (R186). -/
theorem exec_of_unimpl (hu : Config.unimpl op = true) : exec i s = .next (afterUnimplemented s) := by
  rw [exec_of_opcode hop h0, execOpcode, guarded_live hlive, invokeOpcode, if_pos hu, invokeUnimplemented_unimplMore]
  rfl

/-- The row of an opcode not in UNIMPL, where the effects of its answer run (R187). -/
theorem exec_of_runActions_ok (hu : Config.unimpl op = false) {t : State}
    (hrun : runActions (dispatchReply op s).1.actions (dispatchReply op s).2 = .ok t) :
    exec i s = .next (t.setHandlerReply (some (dispatchReply op s).1.status)) := by
  rw [exec_of_opcode hop h0, execOpcode, guarded_live hlive, invokeOpcode, hu]
  simp [invokeDispatch, hrun, complete]

/-- The row of an opcode not in UNIMPL, where an effect of its answer faults (R187, R202). -/
theorem exec_of_runActions_error (hu : Config.unimpl op = false) {f : Fault}
    (hrun : runActions (dispatchReply op s).1.actions (dispatchReply op s).2 = .error f) : exec i s = .fault f := by
  rw [exec_of_opcode hop h0, execOpcode, guarded_live hlive, invokeOpcode, hu]
  simp [invokeDispatch, hrun, complete]

end OpcodeRow

/-- Settles O43: the coded answer runs beside the block's part of the handler's answer, state for state but for the private part. -/
theorem handlersOverAnyPrivateStateRun : Obligations.HandlersOverAnyPrivateStateRun := by
  intro H enc dec hdec handler hs i op s rest hop h0 hlive hstate hreplies answer
  have hreply : dispatchReply op s = (mapReply enc answer, s.setHandlerReplies rest) := by
    rw [dispatchReply_listed hreplies, hstate, carryHandler_mapHandlerState hdec]
  have hstart : withOwn (enc hs.own) (s.setHandlerReplies rest) = s.setHandlerReplies rest := withOwn_of_handlerState hstate
  constructor
  · intro t hrun
    cases hu : Config.unimpl op with
    | true => simpa using exec_of_unimpl hop h0 hlive hu
    | false =>
      have hcoded := runActions_mapAction_ok enc hs.own hrun
      have hcount : t.handlerState.unimplCount = hs.unimplCount :=
        (runActions_unimplCount hrun).symm.trans (congrArg HandlerStateOver.unimplCount hstate)
      rw [exec_of_runActions_ok hop h0 hlive hu (by rw [hreply, ← hstart]; exact hcoded), hreply, ← hcount]
      rfl
  · intro f hrun
    cases hu : Config.unimpl op with
    | true => simpa using exec_of_unimpl hop h0 hlive hu
    | false =>
      obtain ⟨g, w, hcoded, hcode, hleft⟩ := runActions_mapAction_error enc hs.own hrun
      have hexec : exec i s = .fault g := exec_of_runActions_error hop h0 hlive hu (by rw [hreply, ← hstart]; exact hcoded)
      exact ⟨g, hexec, hcode, by rw [hleft]; rfl, by rw [hleft]; rfl, by rw [hleft]; rfl⟩

end Sys2Proof.Proofs
end

/-! Proofs of the family 10_state: the invariant of R41, who writes each field (R36), and the handlers' state (R28). -/

section
namespace Sys2Proof.Proofs

open Sys2Proof.Machine

/-! ## What each command that answers a next state has done -/

/-- A guarded command whose operation does not fault answers the state of that operation. -/
theorem guarded_ok_next {s t u : State} (h : guarded s (.ok u) = .next t) : s.faultRecord = none ∧ t = u := by
  obtain ⟨hlive, he⟩ := guarded_next h
  cases he
  exact ⟨hlive, rfl⟩

section Commands
variable {s t : State}

theorem exec_reset_next (h : exec .reset s = .next t) : s.faultRecord = none ∧ t = resetState s := guarded_ok_next h

theorem exec_enterTest_next (h : exec .enterTest s = .next t) : s.faultRecord = none ∧ t = s.setTopState .test := guarded_ok_next h

theorem exec_advance_next (h : exec .advance s = .next t) : s.faultRecord = none ∧ t = advance s := guarded_ok_next h

theorem exec_driveData_next {d : Byte} (h : exec (.driveData d) s = .next t) :
    s.faultRecord = none ∧ t = s.setPins { s.pins with data := d } := guarded_ok_next h

theorem exec_beginRead_next {a : Addr} (h : exec (.beginRead a) s = .next t) :
    s.faultRecord = none ∧ s.core.busy = false ∧ t = (s.setAddressLatch a).setReadInFlight true := by
  obtain ⟨hlive, he⟩ := guarded_next (show guarded s _ = _ from h)
  rcases beginRead_cases he with ⟨hidle, hr⟩ | ⟨_, hr⟩ <;> cases hr
  exact ⟨hlive, hidle, rfl⟩

theorem exec_beginWrite_next {a : Addr} {d : Byte} (h : exec (.beginWrite a d) s = .next t) :
    s.faultRecord = none ∧ s.core.busy = false ∧ t = ((s.setAddressLatch a).setDataLatch d).setWriteInFlight true := by
  obtain ⟨hlive, he⟩ := guarded_next (show guarded s _ = _ from h)
  rcases beginWrite_cases he with ⟨hidle, hr⟩ | ⟨_, hr⟩ <;> cases hr
  exact ⟨hlive, hidle, rfl⟩

theorem exec_harnessSet_next {w : HarnessWrite} (h : exec (.harnessSet w) s = .next t) :
    s.faultRecord = none ∧ s.core.topState = .test ∧ w.apply s = some t := by
  obtain ⟨hlive, he⟩ := ifLive_next (show ifLive s _ = _ from h)
  obtain ⟨htest, _, happly⟩ := harnessSet_next he
  exact ⟨hlive, htest, happly⟩

end Commands

/-! ## Frames: what a command, a handler and the fetch leave unchanged -/

/-- The pins that change in the half-cycle `h` are ones a row of that half-cycle writes (R36, R121 to R126). -/
structure RowFrame (h : HalfCycle) (p q : PinSet) : Prop where
  address : q.address ≠ p.address → h = 0#3 ∨ h = 1#3 ∨ h = 2#3
  data : q.data ≠ p.data → h = 3#3
  readStrobe : q.readStrobe ≠ p.readStrobe → h = 0#3 ∨ h = 1#3
  writeStrobe : q.writeStrobe ≠ p.writeStrobe → h = 0#3 ∨ h = 3#3 ∨ h = 6#3
  chipSelect : q.chipSelect ≠ p.chipSelect → h = 0#3 ∨ h = 2#3

/-- What the invariant of R41 speaks of is kept: the half-cycle, the phase, and that at most one transaction is in flight; no fault is
recorded either. -/
structure InvFrame (s t : State) : Prop where
  halfCycle : t.core.halfCycle = s.core.halfCycle
  phase : t.pins.phase = s.pins.phase
  faultRecord : t.faultRecord = s.faultRecord
  exclusive : ¬(s.core.readInFlight = true ∧ s.core.writeInFlight = true) → ¬(t.core.readInFlight = true ∧ t.core.writeInFlight = true)

/-- What a handler leaves unchanged (R183, R36). -/
structure HandlerFrame (s t : State) : Prop extends InvFrame s t where
  instructionLatch : t.core.instructionLatch = s.core.instructionLatch
  topState : t.core.topState = s.core.topState
  pins : RowFrame s.core.halfCycle s.pins t.pins

/-- What FetchStep leaves unchanged (R152 to R154, R36, R28). -/
structure FetchFrame (s t : State) : Prop extends InvFrame s t where
  instructionLatch : t.core.instructionLatch ≠ s.core.instructionLatch → s.core.halfCycle = 7#3
  dataLatch : t.core.dataLatch ≠ s.core.dataLatch → s.core.halfCycle = 6#3
  writeInFlight : t.core.writeInFlight = s.core.writeInFlight
  topState : t.core.topState ≠ s.core.topState → s.core.topState = .fetch ∧ s.core.halfCycle = 7#3
  pins : RowFrame s.core.halfCycle s.pins t.pins
  data : t.pins.data = s.pins.data
  handlerState : t.handlerState = s.handlerState

section RowFrame
variable {h : HalfCycle} {p q r : PinSet}

theorem RowFrame.refl (h : HalfCycle) (p : PinSet) : RowFrame h p p := by
  constructor <;> exact fun hne => absurd rfl hne

theorem RowFrame.trans (f : RowFrame h p q) (g : RowFrame h q r) : RowFrame h p r where
  address hne := (hne.ne_or_ne q.address).elim g.address (f.address ·.symm)
  data hne := (hne.ne_or_ne q.data).elim g.data (f.data ·.symm)
  readStrobe hne := (hne.ne_or_ne q.readStrobe).elim g.readStrobe (f.readStrobe ·.symm)
  writeStrobe hne := (hne.ne_or_ne q.writeStrobe).elim g.writeStrobe (f.writeStrobe ·.symm)
  chipSelect hne := (hne.ne_or_ne q.chipSelect).elim g.chipSelect (f.chipSelect ·.symm)

/-- Every row keeps to the pins of its half-cycle (R121 to R127). -/
theorem rowPins_rowFrame (hc3 : HramWriteHc3) (dir : Direction) (r : Region) (h : HalfCycle) (l : Addr) (d : Byte) (p : PinSet) :
    RowFrame h p (rowPins hc3 dir r h l d p) := by
  rcases halfCycle_cases h with rfl | rfl | rfl | rfl | rfl | rfl | rfl | rfl
  · constructor <;> simp [rowZero]
  · cases r <;> constructor <;> simp [rowOne]
  · cases r <;> constructor <;> simp [rowTwo]
  · cases dir <;> cases r <;> constructor <;> simp [rowThree, hramWriteRowThree]
  · exact .refl _ _
  · exact .refl _ _
  · cases dir <;> constructor <;> simp [rowSix]
  · exact .refl _ _

end RowFrame

section InvFrame
variable {s t u : State}

theorem InvFrame.trans (f : InvFrame s t) (g : InvFrame t u) : InvFrame s u where
  halfCycle := g.halfCycle.trans f.halfCycle
  phase := g.phase.trans f.phase
  faultRecord := g.faultRecord.trans f.faultRecord
  exclusive := g.exclusive ∘ f.exclusive

theorem InvFrame.inv (f : InvFrame s t) (h : s.Inv) : t.Inv :=
  ⟨by rw [f.phase, f.halfCycle, h.1], f.exclusive h.2⟩

/-- After `advance` the phase is the one of the half-cycle, whatever it was before (R100). -/
theorem advance_inv (h : ¬(s.core.readInFlight = true ∧ s.core.writeInFlight = true)) : (advance s).Inv := ⟨rfl, h⟩

theorem resetState_inv (s : State) : (resetState s).Inv :=
  ⟨show true = phaseOf 0#3 by decide, Bool.false_ne_true ∘ And.left⟩

/-- A begin succeeds with no transaction in flight only, so one is in flight after it (R110, R111). -/
theorem beginRead_invFrame (a : Addr) (hidle : s.core.busy = false) : InvFrame s ((s.setAddressLatch a).setReadInFlight true) where
  halfCycle := rfl
  phase := rfl
  faultRecord := rfl
  exclusive _ := by simp [(busy_eq_false.mp hidle).2]

theorem beginWrite_invFrame (a : Addr) (d : Byte) (hidle : s.core.busy = false) :
    InvFrame s (((s.setAddressLatch a).setDataLatch d).setWriteInFlight true) where
  halfCycle := rfl
  phase := rfl
  faultRecord := rfl
  exclusive _ := by simp [(busy_eq_false.mp hidle).1]

theorem performRow_invFrame (dir : Direction) (s : State) : InvFrame s (performRow dir s) where
  halfCycle := rfl
  phase := performRow_phase dir s
  faultRecord := rfl
  exclusive := id

/-- To end a transaction, or to leave it in flight, keeps the flags exclusive. -/
theorem setReadInFlight_invFrame {b : Bool} (hb : b = true → s.core.readInFlight = true) : InvFrame s (s.setReadInFlight b) where
  halfCycle := rfl
  phase := rfl
  faultRecord := rfl
  exclusive hx hboth := hx ⟨hb hboth.1, hboth.2⟩

theorem setWriteInFlight_invFrame {b : Bool} (hb : b = true → s.core.writeInFlight = true) : InvFrame s (s.setWriteInFlight b) where
  halfCycle := rfl
  phase := rfl
  faultRecord := rfl
  exclusive hx hboth := hx ⟨hboth.1, hb hboth.2⟩

/-- The harness writes nothing the invariant speaks of (R164). -/
theorem harnessApply_invFrame {w : HarnessWrite} (h : w.apply s = some t) : InvFrame s t := by
  cases w <;> cases h <;> exact ⟨rfl, rfl, rfl, id⟩

end InvFrame

/-! ## Handlers -/

section Handlers
variable {s t u : State}

theorem HandlerFrame.refl (s : State) : HandlerFrame s s := ⟨⟨rfl, rfl, rfl, id⟩, rfl, rfl, .refl _ _⟩

theorem HandlerFrame.trans (f : HandlerFrame s t) (g : HandlerFrame t u) : HandlerFrame s u where
  toInvFrame := f.toInvFrame.trans g.toInvFrame
  instructionLatch := g.instructionLatch.trans f.instructionLatch
  topState := g.topState.trans f.topState
  pins := f.pins.trans (f.halfCycle ▸ g.pins)

/-- A row of a transaction is within what a handler may do (R120). -/
theorem performRow_handlerFrame (dir : Direction) (s : State) : HandlerFrame s (performRow dir s) where
  toInvFrame := performRow_invFrame dir s
  instructionLatch := rfl
  topState := rfl
  pins := rowPins_rowFrame _ _ _ _ _ _ _

theorem runAction_handlerFrame {a : HandlerAction} (h : runAction a s = .ok t) : HandlerFrame s t := by
  rcases runAction_cases h with ⟨a, _, hidle, rfl⟩ | ⟨a, d, _, hidle, rfl⟩ | ⟨_, _, _, rfl⟩ | ⟨_, _, _, rfl⟩ | ⟨_, _, _, rfl⟩ |
    ⟨_, _, _, rfl⟩ | ⟨v, _, rfl⟩ | ⟨v, _, rfl⟩
  · exact ⟨beginRead_invFrame a hidle, rfl, rfl, .refl _ _⟩
  · exact ⟨beginWrite_invFrame a d hidle, rfl, rfl, .refl _ _⟩
  · exact (performRow_handlerFrame .read s).trans ⟨setReadInFlight_invFrame nofun, rfl, rfl, .refl _ _⟩
  · exact performRow_handlerFrame .read s
  · exact (performRow_handlerFrame .write s).trans ⟨setWriteInFlight_invFrame nofun, rfl, rfl, .refl _ _⟩
  · exact performRow_handlerFrame .write s
  · exact ⟨⟨rfl, rfl, rfl, id⟩, rfl, rfl, .refl _ _⟩
  · exact ⟨⟨rfl, rfl, rfl, id⟩, rfl, rfl, .refl _ _⟩

theorem runActions_handlerFrame {as : List HandlerAction} (h : runActions as s = .ok t) : HandlerFrame s t :=
  runActions_relates HandlerFrame.refl (fun _ _ _ => .trans) (fun _ _ _ => runAction_handlerFrame) as s t h

theorem setHandlerReply_handlerFrame (v : Option Status) (s : State) : HandlerFrame s (s.setHandlerReply v) :=
  ⟨⟨rfl, rfl, rfl, id⟩, rfl, rfl, .refl _ _⟩

theorem dispatchReply_handlerFrame (op : Byte) (s : State) : HandlerFrame s (dispatchReply op s).2 := by
  rcases dispatchReply_state op s with h | ⟨l, h⟩ <;> rw [h]
  · exact .refl s
  · exact ⟨⟨rfl, rfl, rfl, id⟩, rfl, rfl, .refl _ _⟩

theorem invokeOpcode_handlerFrame {op : Byte} (h : invokeOpcode op s = .ok t) : HandlerFrame s t := by
  rcases invokeOpcode_cases h with ⟨_, rfl⟩ | ⟨_, u, hrun, rfl⟩
  · exact ⟨⟨rfl, rfl, rfl, id⟩, rfl, rfl, .refl _ _⟩
  · exact ((dispatchReply_handlerFrame op s).trans (runActions_handlerFrame hrun)).trans (setHandlerReply_handlerFrame _ u)

/-- Every opcode's row, NOP's among them, keeps the handlers' frame (R36, R183, R185). -/
theorem exec_opcode_handlerFrame {i : Instr} (hi : i.opcode ≠ none) (h : exec i s = .next t) : HandlerFrame s t := by
  obtain ⟨_, ⟨_, rfl⟩ | ⟨op, _, _, hinvoke⟩⟩ := exec_opcode_next hi h
  · exact setHandlerReply_handlerFrame _ s
  · exact invokeOpcode_handlerFrame hinvoke

end Handlers

/-! ## The fetch and the tick -/

section Tick
variable {s t u : State}

theorem FetchFrame.refl (s : State) : FetchFrame s s where
  toInvFrame := ⟨rfl, rfl, rfl, id⟩
  instructionLatch := absurd rfl
  dataLatch := absurd rfl
  writeInFlight := rfl
  topState := absurd rfl
  pins := .refl _ _
  data := rfl
  handlerState := rfl

theorem FetchFrame.trans (f : FetchFrame s t) (g : FetchFrame t u) : FetchFrame s u where
  toInvFrame := f.toInvFrame.trans g.toInvFrame
  instructionLatch hne := (hne.ne_or_ne t.core.instructionLatch).elim (f.halfCycle ▸ g.instructionLatch) (f.instructionLatch ·.symm)
  dataLatch hne := (hne.ne_or_ne t.core.dataLatch).elim (f.halfCycle ▸ g.dataLatch) (f.dataLatch ·.symm)
  writeInFlight := g.writeInFlight.trans f.writeInFlight
  topState hne := by
    by_cases hm : t.core.topState = s.core.topState
    · rw [← hm, ← f.halfCycle]
      exact g.topState (hm ▸ hne)
    · exact f.topState hm
  pins := f.pins.trans (f.halfCycle ▸ g.pins)
  data := g.data.trans f.data
  handlerState := g.handlerState.trans f.handlerState

/-- The fetch issue begins a read only with no write in flight (R153, R168). -/
theorem withFetchInFlight_fetchFrame (h : s.core.readInFlight = true ∨ s.core.writeInFlight = false) :
    FetchFrame s (withFetchInFlight s) := by
  unfold withFetchInFlight
  split
  · exact .refl s
  · next hread =>
    have hwrite : s.core.writeInFlight = false := h.resolve_left hread
    exact { FetchFrame.refl s with exclusive := fun _ hboth => Bool.false_ne_true (hwrite.symm.trans hboth.2) }

/-- A read row samples at half-cycle 6 and drives no data (R126). -/
theorem performRow_read_fetchFrame (s : State) : FetchFrame s (performRow .read s) where
  toInvFrame := performRow_invFrame .read s
  instructionLatch := absurd rfl
  dataLatch hne := by
    by_contra h6
    exact hne (if_neg h6)
  writeInFlight := rfl
  topState := absurd rfl
  pins := rowPins_rowFrame _ _ _ _ _ _ _
  data := rowPins_read_data _ _ _ _ _ _
  handlerState := rfl

/-- A fetch completes at half-cycle 7 (R154, R159). -/
theorem fetchDone_fetchFrame (h7 : s.core.halfCycle = 7#3) : FetchFrame s (fetchDone s) := by
  unfold fetchDone
  cases hm : s.core.topState with
  | fetch => exact { FetchFrame.refl s with instructionLatch := fun _ => h7, topState := fun _ => ⟨hm, h7⟩ }
  | execute => exact { FetchFrame.refl s with instructionLatch := fun _ => h7 }
  | test => exact { FetchFrame.refl s with instructionLatch := fun _ => h7 }

theorem fetchRow_fetchFrame (h : s.core.readInFlight = true ∨ s.core.writeInFlight = false) :
    FetchFrame s (performRow .read (withFetchInFlight s)) :=
  (withFetchInFlight_fetchFrame h).trans (performRow_read_fetchFrame _)

theorem fetchStep_fetchFrame (h : fetchStep s = .ok t) : FetchFrame s t := by
  rcases fetchStep_cases h with ⟨hbegin, h7, he⟩ | ⟨hbegin, _, he⟩ | ⟨_, _, he⟩ <;> cases he
  · have hrow := fetchRow_fetchFrame hbegin
    have hend : FetchFrame _ ((performRow .read (withFetchInFlight s)).setReadInFlight false) :=
      { FetchFrame.refl _ with toInvFrame := setReadInFlight_invFrame nofun }
    exact (hrow.trans hend).trans (fetchDone_fetchFrame (hrow.halfCycle.trans h7))
  · exact fetchRow_fetchFrame hbegin

theorem fetchAfterHandler_fetchFrame (h : fetchAfterHandler s = .ok t) : FetchFrame s t := by
  rcases fetchAfterHandler_cases h with ⟨_, hfetch⟩ | ⟨_, he⟩
  · exact fetchStep_fetchFrame hfetch
  · cases he
    exact .refl s

/-- A tick ends with `advance`; before it, FETCH runs the fetch, EXECUTE a handler and then the fetch, and TEST nothing (R150, R160). -/
theorem tick_frames (h : exec .tick s = .next t) :
    ∃ v, t = advance v ∧
      ((s.core.topState = .fetch ∧ FetchFrame s v) ∨
        (s.core.topState = .execute ∧ ∃ u, HandlerFrame s u ∧ FetchFrame u v) ∨
        (s.core.topState = .test ∧ v = s)) := by
  rcases tick_next h with ⟨hm, _, v, hfetch, rfl⟩ | ⟨hm, u, v, hhandler, hfetch, rfl⟩ | ⟨hm, _, rfl⟩
  · exact ⟨v, rfl, .inl ⟨hm, fetchStep_fetchFrame hfetch⟩⟩
  · exact ⟨v, rfl, .inr (.inl ⟨hm, u, exec_opcode_handlerFrame (decodeOpcode_isOpcode _) hhandler, fetchAfterHandler_fetchFrame hfetch⟩)⟩
  · exact ⟨s, rfl, .inr (.inr ⟨hm, rfl⟩)⟩

/-- What a handler and then the fetch do in EXECUTE: the latch is loaded at half-cycle 7 only, the mode stays, and the pins are the rows'. -/
theorem executeTick_frame (hm : s.core.topState = .execute) (f : HandlerFrame s t) (g : FetchFrame t u) :
    (u.core.instructionLatch ≠ s.core.instructionLatch → s.core.halfCycle = 7#3) ∧ u.core.topState = s.core.topState ∧
      RowFrame s.core.halfCycle s.pins u.pins := by
  refine ⟨f.instructionLatch ▸ f.halfCycle ▸ g.instructionLatch, ?_, f.pins.trans (f.halfCycle ▸ g.pins)⟩
  by_contra hne
  have hfetch : t.core.topState = .fetch := (g.topState (f.topState ▸ hne)).1
  simp [f.topState, hm] at hfetch

theorem tick_inv (hinv : s.Inv) (h : exec .tick s = .next t) : t.Inv ∧ t.faultRecord = none := by
  have hlive := exec_next_live h
  obtain ⟨v, rfl, ⟨_, f⟩ | ⟨_, u, f, g⟩ | ⟨_, rfl⟩⟩ := tick_frames h
  · exact ⟨advance_inv (f.exclusive hinv.2), f.faultRecord.trans hlive⟩
  · have fg := f.toInvFrame.trans g.toInvFrame
    exact ⟨advance_inv (fg.exclusive hinv.2), fg.faultRecord.trans hlive⟩
  · exact ⟨advance_inv hinv.2, hlive⟩

end Tick

/-! ## The invariant of R41 -/

/-- Every instruction but a tick, ADVANCE and RESET leaves alone all the invariant speaks of. -/
theorem exec_invFrame {i : Instr} {s t : State} (htick : i ≠ .tick) (hadvance : i ≠ .advance) (hreset : i ≠ .reset)
    (h : exec i s = .next t) : InvFrame s t := by
  rcases instr_cases i with ho | rfl | rfl | rfl | ⟨a, rfl⟩ | ⟨a, d, rfl⟩ | rfl | rfl | rfl | ⟨d, rfl⟩ | ⟨w, rfl⟩
  · exact (exec_opcode_handlerFrame ho h).toInvFrame
  · exact absurd rfl htick
  · exact absurd rfl hreset
  · obtain ⟨_, rfl⟩ := exec_enterTest_next h
    exact ⟨rfl, rfl, rfl, id⟩
  · obtain ⟨_, hidle, rfl⟩ := exec_beginRead_next h
    exact beginRead_invFrame a hidle
  · obtain ⟨_, hidle, rfl⟩ := exec_beginWrite_next h
    exact beginWrite_invFrame a d hidle
  · obtain ⟨_, hread, rfl⟩ := exec_stepRead_next h
    have f := (performRow_invFrame .read s).trans (setReadInFlight_invFrame (b := decide (s.core.halfCycle ≠ 7#3)) fun _ => hread)
    exact f.trans ⟨rfl, rfl, rfl, id⟩
  · obtain ⟨_, hwrite, rfl⟩ := exec_stepWrite_next h
    have f := (performRow_invFrame .write s).trans (setWriteInFlight_invFrame (b := decide (s.core.halfCycle ≠ 7#3)) fun _ => hwrite)
    exact f.trans ⟨rfl, rfl, rfl, id⟩
  · exact absurd rfl hadvance
  · obtain ⟨_, rfl⟩ := exec_driveData_next h
    exact ⟨rfl, rfl, rfl, id⟩
  · obtain ⟨_, _, happly⟩ := exec_harnessSet_next h
    exact harnessApply_invFrame happly

/-- R41 over all instructions. -/
theorem exec_inv {i : Instr} {s t : State} (hinv : s.Inv) (h : exec i s = .next t) : t.Inv ∧ t.faultRecord = none := by
  have hlive := exec_next_live h
  by_cases htick : i = .tick
  · subst htick
    exact tick_inv hinv h
  by_cases hadvance : i = .advance
  · subst hadvance
    obtain ⟨_, rfl⟩ := exec_advance_next h
    exact ⟨advance_inv hinv.2, hlive⟩
  by_cases hreset : i = .reset
  · subst hreset
    obtain ⟨_, rfl⟩ := exec_reset_next h
    exact ⟨resetState_inv s, hlive⟩
  have f := exec_invFrame htick hadvance hreset h
  exact ⟨f.inv hinv, f.faultRecord.trans hlive⟩

/-- Settles O51: a step is one instruction, and taking its command off the list changes nothing the invariant speaks of. -/
theorem everyStepKeepsTheInvariant : Obligations.EveryStepKeepsTheInvariant := by
  intro s t hinv hstep
  obtain ⟨i, u, he, hu⟩ := step_eq_exec s
  rw [he] at hstep
  rcases hu with rfl | ⟨l, rfl⟩
  · exact exec_inv hinv hstep
  · exact exec_inv (s := s.setCommands l) hinv hstep

/-- Settles O50. -/
theorem invariantHoldsAtPowerOn : Obligations.InvariantHoldsAtPowerOn :=
  ⟨⟨show true = phaseOf 0#3 by decide, Bool.false_ne_true ∘ And.left⟩, rfl⟩

/-- Settles O1: every value is written out in `State.reset`; A15 is bit 15 of its address pins. -/
theorem powerOnStateHoldsTheGivenResetValues : Obligations.PowerOnStateHoldsTheGivenResetValues :=
  ⟨rfl, rfl, rfl, rfl, rfl, show (0x8000#16).getLsbD 15 = true by decide, rfl⟩

/-! ## The handlers' state (R28) -/

/-- Settles O55: outside the opcode rows and a tick in EXECUTE, no operation writes the handlers' state. -/
theorem handlerStateIsWrittenOnlyByHandlers : Obligations.HandlerStateIsWrittenOnlyByHandlers := by
  intro i s t h hcommand hmode
  rcases instr_cases i with ho | rfl | rfl | rfl | ⟨a, rfl⟩ | ⟨a, d, rfl⟩ | rfl | rfl | rfl | ⟨d, rfl⟩ | ⟨w, rfl⟩
  · exact absurd hcommand ho
  · obtain ⟨v, rfl, ⟨_, f⟩ | ⟨hm, _⟩ | ⟨_, rfl⟩⟩ := tick_frames h
    · exact f.handlerState
    · exact absurd hm (hmode rfl)
    · rfl
  · obtain ⟨_, rfl⟩ := exec_reset_next h
    rfl
  · obtain ⟨_, rfl⟩ := exec_enterTest_next h
    rfl
  · obtain ⟨_, _, rfl⟩ := exec_beginRead_next h
    rfl
  · obtain ⟨_, _, rfl⟩ := exec_beginWrite_next h
    rfl
  · obtain ⟨_, _, rfl⟩ := exec_stepRead_next h
    rfl
  · obtain ⟨_, _, rfl⟩ := exec_stepWrite_next h
    rfl
  · obtain ⟨_, rfl⟩ := exec_advance_next h
    rfl
  · obtain ⟨_, rfl⟩ := exec_driveData_next h
    rfl
  · obtain ⟨_, _, happly⟩ := exec_harnessSet_next h
    cases w <;> cases happly <;> rfl

/-! ## Who writes each field (R36)

The pins are written by the rows of a transaction, so every writer of them but the environment, the harness and RESET keeps a `RowFrame`. -/

/-- Settles O54: each instruction keeps a frame, and a field outside it is one the instruction is a writer of. -/
theorem fieldsChangeOnlyByTheirWriters : Obligations.FieldsChangeOnlyByTheirWriters := by
  intro i s t hexec harness handler fetch steps h
  rcases instr_cases i with ho | rfl | rfl | rfl | ⟨a, rfl⟩ | ⟨a, d, rfl⟩ | rfl | rfl | rfl | ⟨d, rfl⟩ | ⟨w, rfl⟩
  · have hhandler : handler := .inl ho
    have f := exec_opcode_handlerFrame ho hexec
    have p := f.pins
    exact ⟨fun _ => .inr (.inl hhandler), absurd f.instructionLatch, fun _ => .inr (.inl hhandler), fun _ => .inr (.inl hhandler),
      absurd f.halfCycle, fun _ => .inr (.inl hhandler), fun _ => .inl hhandler, absurd f.topState,
      fun hne => .inl ⟨.inr (.inl hhandler), p.address hne⟩, fun hne => .inl ⟨.inl hhandler, p.data hne⟩,
      fun hne => .inl ⟨.inr (.inl hhandler), p.readStrobe hne⟩, fun hne => .inl ⟨.inr (.inl hhandler), p.writeStrobe hne⟩,
      fun hne => .inl ⟨.inr (.inl hhandler), p.chipSelect hne⟩, absurd f.phase⟩
  · obtain ⟨v, rfl, ⟨hm, f⟩ | ⟨hm, u, f, g⟩ | ⟨hm, rfl⟩⟩ := tick_frames hexec
    · have hfetch : fetch := ⟨rfl, by simp [hm]⟩
      have p := f.pins
      exact ⟨fun _ => .inl hfetch, fun hne => .inl ⟨hfetch, f.instructionLatch hne⟩, fun _ => .inl hfetch,
        fun hne => .inl ⟨hfetch, f.dataLatch hne⟩, fun _ => .inl rfl, fun _ => .inl hfetch, absurd f.writeInFlight,
        fun hne => .inl ⟨rfl, f.topState hne⟩,
        fun hne => .inl ⟨.inl hfetch, p.address hne⟩, absurd f.data, fun hne => .inl ⟨.inl hfetch, p.readStrobe hne⟩,
        fun hne => .inl ⟨.inl hfetch, p.writeStrobe hne⟩, fun hne => .inl ⟨.inl hfetch, p.chipSelect hne⟩, fun _ => .inl rfl⟩
    · have hfetch : fetch := ⟨rfl, by simp [hm]⟩
      have hhandler : handler := .inr ⟨rfl, hm⟩
      obtain ⟨hlatch, hmode, p⟩ := executeTick_frame hm f g
      exact ⟨fun _ => .inl hfetch, fun hne => .inl ⟨hfetch, hlatch hne⟩, fun _ => .inl hfetch,
        fun _ => .inr (.inl hhandler), fun _ => .inl rfl, fun _ => .inl hfetch, fun _ => .inl hhandler, absurd hmode,
        fun hne => .inl ⟨.inl hfetch, p.address hne⟩, fun hne => .inl ⟨.inl hhandler, p.data hne⟩,
        fun hne => .inl ⟨.inl hfetch, p.readStrobe hne⟩, fun hne => .inl ⟨.inl hfetch, p.writeStrobe hne⟩,
        fun hne => .inl ⟨.inl hfetch, p.chipSelect hne⟩, fun _ => .inl rfl⟩
    · simp [advance_eq]
  · simp
  · obtain ⟨_, rfl⟩ := exec_enterTest_next hexec
    simp
  · obtain ⟨_, _, rfl⟩ := exec_beginRead_next hexec
    simp
  · obtain ⟨_, _, rfl⟩ := exec_beginWrite_next hexec
    simp
  · obtain ⟨_, hread, rfl⟩ := exec_stepRead_next hexec
    have f := performRow_read_fetchFrame s
    have p := f.pins
    have hend : decide (h ≠ 7#3) ≠ s.core.readInFlight → h = 7#3 := by simp [hread]
    have hsteps : steps := .inl rfl
    exact ⟨absurd rfl, absurd rfl, absurd rfl, fun hne => .inr (.inr (.inl ⟨rfl, f.dataLatch hne⟩)), absurd rfl,
      fun hne => .inr (.inr (.inr (.inl ⟨rfl, hend hne⟩))), absurd rfl, absurd rfl,
      fun hne => .inl ⟨.inr (.inr hsteps), p.address hne⟩, absurd f.data, fun hne => .inl ⟨.inr (.inr hsteps), p.readStrobe hne⟩,
      fun hne => .inl ⟨.inr (.inr hsteps), p.writeStrobe hne⟩, fun hne => .inl ⟨.inr (.inr hsteps), p.chipSelect hne⟩, absurd f.phase⟩
  · obtain ⟨_, hwrite, rfl⟩ := exec_stepWrite_next hexec
    have f := performRow_handlerFrame .write s
    have p := f.pins
    have hend : decide (h ≠ 7#3) ≠ s.core.writeInFlight → h = 7#3 := by simp [hwrite]
    have hsteps : steps := .inr rfl
    exact ⟨absurd rfl, absurd rfl, absurd rfl, absurd rfl, absurd rfl, absurd rfl,
      fun hne => .inr (.inr (.inl ⟨rfl, hend hne⟩)), absurd rfl,
      fun hne => .inl ⟨.inr (.inr hsteps), p.address hne⟩, fun hne => .inl ⟨.inr rfl, p.data hne⟩,
      fun hne => .inl ⟨.inr (.inr hsteps), p.readStrobe hne⟩, fun hne => .inl ⟨.inr (.inr hsteps), p.writeStrobe hne⟩,
      fun hne => .inl ⟨.inr (.inr hsteps), p.chipSelect hne⟩, absurd f.phase⟩
  · obtain ⟨_, rfl⟩ := exec_advance_next hexec
    simp [advance_eq]
  · obtain ⟨_, rfl⟩ := exec_driveData_next hexec
    simp
  · obtain ⟨_, htest, happly⟩ := exec_harnessSet_next hexec
    have hharness : harness := ⟨⟨w, rfl⟩, htest⟩
    cases w <;> cases happly <;> simp [hharness]

end Sys2Proof.Proofs
end

/-! Proofs of the family 20_memory: the regions (R52, R53), the environment's drive (R61), and what the address pins show in a transaction
(R55). -/

section
namespace Sys2Proof.Proofs

open Sys2Proof.Machine

/-- Settles O11: the four ranges, one by one. -/
theorem regionsSplitTheAddressSpace : Obligations.RegionsSplitTheAddressSpace := fun _ =>
  ⟨region_rom, fun ⟨hlow, hhigh⟩ => region_other hlow hhigh, fun ⟨hlow, hhigh⟩ => region_ram hlow hhigh, region_hramIo⟩

theorem exec_driveData {s : State} (hlive : s.faultRecord = none) (d : Byte) :
    exec (.driveData d) s = .next (s.setPins { s.pins with data := d }) := guarded_live hlive _

/-- Settles O37. -/
theorem driveDataWritesTheDataPinsAlone : Obligations.DriveDataWritesTheDataPinsAlone := fun d _ hlive => exec_driveData hlive d

/-! ## Addresses by A15 and their low 15 bits -/

/-- A15 is high from 0x8000 on (R73). -/
theorem getLsbD_fifteen (a : Addr) : a.getLsbD 15 = decide (0x8000 ≤ a.toNat) := BitVec.msb_eq_decide a

/-- An address is its A15 and its low 15 bits. -/
theorem addr_ext {a b : Addr} (hhigh : a.getLsbD 15 = b.getLsbD 15) (hlow : a &&& 0x7FFF#16 = b &&& 0x7FFF#16) : a = b := by
  have hmod : a.toNat % 2 ^ 15 = b.toNat % 2 ^ 15 := by
    simpa [BitVec.toNat_and, Nat.and_two_pow_sub_one_eq_mod _ 15] using congrArg BitVec.toNat hlow
  have hhalf : 0x8000 ≤ a.toNat ↔ 0x8000 ≤ b.toNat := by rwa [getLsbD_fifteen, getLsbD_fifteen, decide_eq_decide] at hhigh
  apply BitVec.eq_of_toNat_eq
  omega

/-- The ROM region is the addresses with A15 low (R52, R54). -/
theorem region_eq_rom_iff (a : Addr) : region a = .rom ↔ a.getLsbD 15 = false := by
  rw [getLsbD_fifteen, decide_eq_false_iff_not, Nat.not_le]
  constructor
  · intro hrom
    by_contra hhigh
    rcases (by omega : a.toNat ≤ 0x9FFF ∨ 0xA000 ≤ a.toNat ∧ a.toNat ≤ 0xFDFF ∨ 0xFE00 ≤ a.toNat) with h | ⟨h, h'⟩ | h
    · simp [region_other (by omega) h] at hrom
    · simp [region_ram h h'] at hrom
    · simp [region_hramIo h] at hrom
  · exact fun hlow => region_rom (by omega)

/-- The ROM and RAM addresses are those of the regions with an external interface (R52, R54). -/
theorem region_ne_hramIo {a : Addr} (h : InRom a ∨ InRam a) : region a ≠ .hramIo := by
  rcases h with hrom | ⟨hlow, hhigh⟩
  · simp [region_rom hrom]
  · simp [region_ram hlow hhigh]

/-! ## What the rows do to the address pins -/

/-- Half-cycles named by their numbers. -/
theorem halfCycle_ofNat_inj {m n : Nat} (hm : m < 8) (hn : n < 8) : BitVec.ofNat 3 m = BitVec.ofNat 3 n ↔ m = n := by
  rw [← BitVec.toNat_inj, BitVec.toNat_ofNat, BitVec.toNat_ofNat, Nat.mod_eq_of_lt hm, Nat.mod_eq_of_lt hn]

section RowAddress
variable (hc3 : HramWriteHc3) (dir : Direction) (r : Region) (h : HalfCycle) (l : Addr) (d : Byte) (p : PinSet)

/-- Row 0 pulls A15 high, and row 2 pulls it low in the ROM region; no other row writes it (R121, R122, R123). -/
theorem rowPins_a15 : (rowPins hc3 dir r h l d p).address.getLsbD 15 =
    if h = 0#3 then true else if h = 2#3 ∧ r = .rom then false else p.address.getLsbD 15 := by
  rcases halfCycle_cases h with rfl | rfl | rfl | rfl | rfl | rfl | rfl | rfl
  · simp [rowZero]
  · cases r <;> simp [rowOne, placeLowAddress]
  · cases r <;> simp [rowTwo]
  · cases dir <;> cases r <;> rfl
  · rfl
  · rfl
  · cases dir <;> rfl
  · rfl

/-- Row 1 places the low 15 address bits in the ROM and RAM regions; no other row writes them (R121, R122, R123). -/
theorem rowPins_lowAddress : (rowPins hc3 dir r h l d p).address &&& 0x7FFF#16 =
    if h = 1#3 ∧ r ≠ .hramIo then l &&& 0x7FFF#16 else p.address &&& 0x7FFF#16 := by
  rcases halfCycle_cases h with rfl | rfl | rfl | rfl | rfl | rfl | rfl | rfl
  · simp [rowZero, BitVec.and_or_distrib_right]
  · cases r <;> simp [rowOne, placeLowAddress, BitVec.and_or_distrib_right, BitVec.and_assoc]
  · cases r <;> simp [rowTwo, BitVec.and_assoc]
  · cases dir <;> cases r <;> rfl
  · rfl
  · rfl
  · cases dir <;> rfl
  · rfl

end RowAddress

/-! ## A transaction of either direction in TEST, one half-cycle at a time -/

/-- The command that begins a transaction (R110, R111); a read takes no byte. -/
def beginCommand (dir : Direction) (a : Addr) (d : Byte) : Command :=
  match dir with
  | .read => .beginRead a
  | .write => .beginWrite a d

/-- The command that steps a transaction (R112, R113). -/
def stepCommand : Direction → Command
  | .read => .stepRead
  | .write => .stepWrite

/-- The in-flight flag of a direction (R26). -/
def inFlight (dir : Direction) (s : State) : Bool :=
  match dir with
  | .read => s.core.readInFlight
  | .write => s.core.writeInFlight

/-- The in-flight flag of a direction written (R26). -/
def setInFlight (dir : Direction) (b : Bool) (s : State) : State :=
  match dir with
  | .read => s.setReadInFlight b
  | .write => s.setWriteInFlight b

/-- The state a begin leaves (R110, R111). -/
def afterBegin (dir : Direction) (a : Addr) (d : Byte) (s : State) : State :=
  match dir with
  | .read => (s.setAddressLatch a).setReadInFlight true
  | .write => ((s.setAddressLatch a).setDataLatch d).setWriteInFlight true

/-- The state a step of a transaction in flight leaves (R112, R113). -/
def afterStep (dir : Direction) (s : State) : State :=
  (setInFlight dir (decide (s.core.halfCycle ≠ 7#3)) (performRow dir s)).setStepResult (some (decide (s.core.halfCycle ≠ 7#3)))

/-- The state the environment's turn leaves (R61). -/
def afterEnvironment (e : Option Byte) (s : State) : State :=
  match e with
  | some d => s.setPins { s.pins with data := d }
  | none => s

/-- The state one half-cycle of a stepped transaction leaves: the environment's turn, the step and the tick. -/
def afterTurn (dir : Direction) (e : Option Byte) (s : State) : State := advance (afterStep dir (afterEnvironment e s))

section Turn
variable {dir : Direction} {s : State} (hlive : s.faultRecord = none)
include hlive

theorem exec_beginCommand (hidle : s.core.busy = false) (a : Addr) (d : Byte) :
    exec (beginCommand dir a d).toInstr s = .next (afterBegin dir a d s) := by
  cases dir with
  | read => exact (guarded_live hlive (beginRead a s)).trans (by simp [beginRead, hidle, complete, afterBegin])
  | write => exact (guarded_live hlive (beginWrite a d s)).trans (by simp [beginWrite, hidle, complete, afterBegin])

theorem exec_stepCommand (hf : inFlight dir s = true) : exec (stepCommand dir).toInstr s = .next (afterStep dir s) := by
  cases dir with
  | read =>
    replace hf : s.core.readInFlight = true := hf
    refine (guarded_live hlive (keepStepResult (stepRead s))).trans ?_
    by_cases h7 : s.core.halfCycle = 7#3 <;>
      simp [stepRead, atRowSeven, hf, h7, keepStepResult, Except.map, complete, afterStep, setInFlight, State.setReadInFlight, performRow_eq]
  | write =>
    replace hf : s.core.writeInFlight = true := hf
    refine (guarded_live hlive (keepStepResult (stepWrite s))).trans ?_
    by_cases h7 : s.core.halfCycle = 7#3 <;>
      simp [stepWrite, atRowSeven, hf, h7, keepStepResult, Except.map, complete, afterStep, setInFlight, State.setWriteInFlight, performRow_eq]

theorem exec_tick_test (htest : s.core.topState = .test) : exec .tick s = .next (advance s) := by
  simp [exec, execTick, htest, guarded_live hlive, endTick, Except.map, complete]

theorem runCommands_environmentTurn (e : Option Byte) (cs : List Command) :
    runCommands (environmentTurn e ++ cs) s = runCommands cs (afterEnvironment e s) := by
  cases e with
  | none => rfl
  | some d =>
    have hdrive : exec (Command.driveData d).toInstr s = .next (afterEnvironment (some d) s) := exec_driveData hlive d
    simp [environmentTurn, runCommands, hdrive]

end Turn

section AfterTurn
variable (dir : Direction) (e : Option Byte) (s : State)

@[simp] theorem afterEnvironment_core : (afterEnvironment e s).core = s.core := by cases e <;> rfl
@[simp] theorem afterEnvironment_faultRecord : (afterEnvironment e s).faultRecord = s.faultRecord := by cases e <;> rfl
@[simp] theorem afterEnvironment_address : (afterEnvironment e s).pins.address = s.pins.address := by cases e <;> rfl
@[simp] theorem inFlight_afterEnvironment : inFlight dir (afterEnvironment e s) = inFlight dir s := by cases e <;> rfl
@[simp] theorem afterStep_faultRecord : (afterStep dir s).faultRecord = s.faultRecord := by cases dir <;> rfl
@[simp] theorem afterStep_topState : (afterStep dir s).core.topState = s.core.topState := by cases dir <;> rfl
@[simp] theorem afterStep_halfCycle : (afterStep dir s).core.halfCycle = s.core.halfCycle := by cases dir <;> rfl
@[simp] theorem afterStep_addressLatch : (afterStep dir s).core.addressLatch = s.core.addressLatch := by cases dir <;> rfl
@[simp] theorem inFlight_afterStep : inFlight dir (afterStep dir s) = decide (s.core.halfCycle ≠ 7#3) := by cases dir <;> rfl
theorem afterStep_pins : (afterStep dir s).pins =
    rowPins Config.hramWriteHc3 dir (region s.core.addressLatch) s.core.halfCycle s.core.addressLatch s.core.dataLatch s.pins := by
  cases dir <;> rfl

end AfterTurn

/-- A transaction at address `a` in TEST whose rows 0 to `n` - 1 are done (R130). -/
structure TransactionAt (dir : Direction) (a : Addr) (n : Nat) (s : State) : Prop where
  live : s.faultRecord = none
  test : s.core.topState = .test
  latch : s.core.addressLatch = a
  halfCycle : s.core.halfCycle = BitVec.ofNat 3 n
  begun : n < 8 → inFlight dir s = true

section Transaction
variable {dir : Direction} {a : Addr} {n : Nat} {s : State}

/-- A begin at half-cycle 0 starts a transaction at row 0 (R110, R111). -/
theorem afterBegin_transactionAt (hlive : s.faultRecord = none) (htest : s.core.topState = .test) (hzero : s.core.halfCycle = 0#3) (d : Byte) :
    TransactionAt dir a 0 (afterBegin dir a d s) := by
  cases dir <;> exact ⟨hlive, htest, rfl, hzero, fun _ => rfl⟩

/-- In one half-cycle a transaction goes on by one row. -/
theorem TransactionAt.succ (t : TransactionAt dir a n s) (hn : n < 8) (e : Option Byte) :
    TransactionAt dir a (n + 1) (afterTurn dir e s) where
  live := by simpa [afterTurn, advance_eq] using t.live
  test := by simpa [afterTurn, advance_eq] using t.test
  latch := by simpa [afterTurn, advance_eq] using t.latch
  halfCycle := by simp [afterTurn, advance_eq, t.halfCycle, BitVec.ofNat_add]
  begun hlt := by
    have hrow : BitVec.ofNat 3 n ≠ 7#3 := by
      rw [ne_eq, halfCycle_ofNat_inj hn (by decide)]
      omega
    have hstep : inFlight dir (afterStep dir (afterEnvironment e s)) = true := by simp [t.halfCycle, hrow]
    cases dir <;> exact hstep

/-- The commands of one half-cycle of a transaction in flight run to the state `afterTurn`. -/
theorem TransactionAt.runCommands_turn (t : TransactionAt dir a n s) (hn : n < 8) (e : Option Byte) (cs : List Command) :
    runCommands (environmentTurn e ++ ([stepCommand dir, .tick] ++ cs)) s = runCommands cs (afterTurn dir e s) := by
  have hstep := exec_stepCommand (s := afterEnvironment e s) (by simpa using t.live) (by simpa using t.begun hn)
  have htick : exec Command.tick.toInstr (afterStep dir (afterEnvironment e s)) = .next (afterTurn dir e s) :=
    exec_tick_test (by simpa using t.live) (by simpa using t.test)
  rw [runCommands_environmentTurn t.live]
  simp [runCommands, hstep, htick]

/-- The induction over the turns of a transaction: what each row hands on to the next holds after the last of them. -/
theorem steppedTicks_induction {P : Nat → State → Prop}
    (hrow : ∀ n s e, n < 8 → TransactionAt dir a n s → P n s → P (n + 1) (afterTurn dir e s)) :
    ∀ (turns : List (Option Byte)) (n : Nat) (s : State), n + turns.length ≤ 8 → TransactionAt dir a n s → P n s →
      ∃ t, runCommands (steppedTicks (stepCommand dir) turns) s = .next t ∧
        TransactionAt dir a (n + turns.length) t ∧ P (n + turns.length) t := by
  intro turns
  induction turns with
  | nil => exact fun n s _ htrans hP => ⟨s, rfl, htrans, hP⟩
  | cons e rest ih =>
    intro n s hlen htrans hP
    rw [List.length_cons] at hlen
    have hn : n < 8 := by omega
    obtain ⟨t, hrun, htrans', hP'⟩ := ih (n + 1) (afterTurn dir e s) (by omega) (htrans.succ hn e) (hrow n s e hn htrans hP)
    rw [steppedTicks_cons, htrans.runCommands_turn hn, List.length_cons, Nat.add_comm rest.length, ← Nat.add_assoc]
    exact ⟨t, hrun, htrans', hP'⟩

end Transaction

/-! ## The address pins from row to row (R55) -/

/-- The address pins after rows 0 to `n` - 1 of a transaction at `a`: A15 is high from row 0 and the address's own from row 2, and the low bits
are the address's from row 1, but in the HRAM_IO class. -/
structure AddressPinsAfter (a : Addr) (n : Nat) (p : Addr) : Prop where
  a15 : 1 ≤ n → p.getLsbD 15 = (decide (n < 3) || a.getLsbD 15)
  low : 2 ≤ n → region a ≠ .hramIo → p &&& 0x7FFF#16 = a &&& 0x7FFF#16

/-- From row 2 on, at a ROM or RAM address, the pins hold the whole address. -/
theorem AddressPinsAfter.eq {a : Addr} {n : Nat} {p : Addr} (h : AddressPinsAfter a n p) (hn : 3 ≤ n) (ha : region a ≠ .hramIo) : p = a := by
  have hlate : ¬ n < 3 := by omega
  exact addr_ext (by simpa [hlate] using h.a15 (by omega)) (h.low (by omega) ha)

/-- Row `n` takes the address pins from what they show after the rows before it to what they show after it (R121, R122, R123). -/
theorem AddressPinsAfter.succ {a : Addr} {n : Nat} {p : PinSet} (hp : AddressPinsAfter a n p.address) (hn : n < 8)
    (hc3 : HramWriteHc3) (dir : Direction) (d : Byte) :
    AddressPinsAfter a (n + 1) (rowPins hc3 dir (region a) (BitVec.ofNat 3 n) a d p).address where
  a15 _ := by
    simp only [rowPins_a15, halfCycle_ofNat_inj hn (by decide : 0 < 8), halfCycle_ofNat_inj hn (by decide : 2 < 8),
      region_eq_rom_iff]
    split_ifs with hzero htwo
    · simp [hzero]
    · rw [htwo.2, htwo.1]
      decide
    · rw [hp.a15 (by omega)]
      cases hhigh : a.getLsbD 15 with
      | true => simp
      | false =>
        have hsame : n < 3 ↔ n + 1 < 3 := by
          have : n ≠ 2 := fun h2 => htwo ⟨h2, hhigh⟩
          omega
        simp [hsame]
  low _ ha := by
    rw [rowPins_lowAddress]
    split_ifs with hone
    · rfl
    · have h1 : n ≠ 1 := fun h1 => hone ⟨congrArg (BitVec.ofNat 3) h1, ha⟩
      exact hp.low (by omega) ha

/-- Neither the environment's turn nor the tick touches the address pins, so a half-cycle does to them what its row does. -/
theorem afterTurn_addressPins {dir : Direction} {a : Addr} {n : Nat} {s : State} (hn : n < 8) (htrans : TransactionAt dir a n s)
    (hp : AddressPinsAfter a n s.pins.address) (e : Option Byte) : AddressPinsAfter a (n + 1) (afterTurn dir e s).pins.address := by
  rw [← afterEnvironment_address e s] at hp
  simpa [afterTurn, advance_eq, afterStep_pins, htrans.latch, htrans.halfCycle] using hp.succ hn Config.hramWriteHc3 dir s.core.dataLatch

/-- A transaction begun at half-cycle 0 runs turn after turn, and its address pins go with its rows, whatever the address. -/
theorem begun_addressPins {s : State} (hlive : s.faultRecord = none) (htest : s.core.topState = .test) (hidle : s.core.busy = false)
    (hzero : s.core.halfCycle = 0#3) (dir : Direction) (a : Addr) (d : Byte) {turns : List (Option Byte)} (hlen : turns.length ≤ 8) :
    ∃ t, runCommands (beginCommand dir a d :: steppedTicks (stepCommand dir) turns) s = .next t ∧
      AddressPinsAfter a turns.length t.pins.address := by
  have hstart : AddressPinsAfter a 0 (afterBegin dir a d s).pins.address := ⟨nofun, nofun⟩
  obtain ⟨t, hrun, _, hpins⟩ := steppedTicks_induction (P := fun n s => AddressPinsAfter a n s.pins.address)
    (fun _ _ e hn htrans hp => afterTurn_addressPins hn htrans hp e) turns 0 _ (by omega) (afterBegin_transactionAt hlive htest hzero d) hstart
  rw [Nat.zero_add] at hpins
  exact ⟨t, by simpa [runCommands, exec_beginCommand hlive hidle] using hrun, hpins⟩

/-- Settles O23: a read and a write alike, by what each row hands on to the next. -/
theorem pinsShowTheAddressFromRowTwo : Obligations.PinsShowTheAddressFromRowTwo := by
  intro s a d turns hlive htest hread hwrite hzero hthree hlen ha cs hcs
  have hrun (dir : Direction) :
      ∃ t, runCommands (beginCommand dir a d :: steppedTicks (stepCommand dir) turns) s = .next t ∧ t.pins.address = a := by
    obtain ⟨t, hnext, hpins⟩ := begun_addressPins hlive htest (busy_eq_false.mpr ⟨hread, hwrite⟩) hzero dir a d hlen
    exact ⟨t, hnext, hpins.eq hthree (region_ne_hramIo ha)⟩
  rcases hcs with rfl | rfl
  · exact hrun .read
  · exact hrun .write

end Sys2Proof.Proofs
end

/-! Proofs of the family 30_encoding: the decoder and the encoder agree on the opcode rows (R70, R71, R76), and a step takes the next listed
command (R74). -/

section
namespace Sys2Proof.Proofs

open Sys2Proof.Machine

/-! ## The step's command -/

theorem step_of_commands_cons {s : State} {c : Command} {rest : List Command} (h : s.commands = c :: rest) :
    step s = exec c.toInstr (s.setCommands rest) := by
  simp only [step, nextCommand, h]

theorem step_of_commands_nil {s : State} (h : s.commands = []) : step s = exec .tick s := by
  simp only [step, nextCommand, h]
  rfl

/-- Settles O26. -/
theorem stepRunsTheNextCommand : Obligations.StepRunsTheNextCommand := fun _ =>
  ⟨fun _ _ => step_of_commands_cons, step_of_commands_nil⟩

/-! ## The opcode rows and their bytes -/

/-- An opcode belongs to one row alone (R76): with `decodeOpcode_opcode`, the rows and the bytes match one to one. -/
theorem decodeOpcode_of_opcode {i : Instr} {op : Byte} (h : i.opcode = some op) : decodeOpcode op = i := by
  cases i with
  | tick | reset | enterTest | beginRead _ | beginWrite _ _ | stepRead | stepWrite | advance | driveData _ | harnessSet _ => cases h
  | _ => cases h; rfl

theorem decode_of_opcode {i : Instr} {op : Byte} (h : i.opcode = some op) (rest : List Byte) :
    decode (op :: rest) = .ok (i, rest) := by
  rw [decode, decodeOpcode_of_opcode h]

theorem encode_of_opcode {i : Instr} {op : Byte} (h : i.opcode = some op) : encode i = [op] := by
  rw [encode, h, Option.toList_some]

/-- An opcode's row has no operand, so it is in contract. -/
theorem wellFormed_of_opcode {i : Instr} {op : Byte} (h : i.opcode = some op) : wellFormed i = true := by
  cases i with
  | harnessSet _ => cases h
  | _ => rfl

/-- Settles O47: an encoding is the row's opcode, and that byte selects the row. -/
theorem decodeOfEncodeIsTheInstruction : Obligations.DecodeOfEncodeIsTheInstruction := by
  intro i rest hcoded
  obtain ⟨op, hop⟩ := Option.ne_none_iff_exists'.mp hcoded
  rw [encode_of_opcode hop]
  exact decode_of_opcode hop rest

/-- Settles O48: the row a byte selects has that byte as its opcode. -/
theorem everyByteSelectsItsOwnRow : Obligations.EveryByteSelectsItsOwnRow := by
  constructor
  · intro b rest
    have hop : (decodeOpcode b).opcode = some b := decodeOpcode_opcode b
    exact ⟨decodeOpcode b, decode_of_opcode hop rest, encode_of_opcode hop, wellFormed_of_opcode hop⟩
  · rfl

/-- Settles O49: each byte written out is the opcode of its row. -/
theorem sampleOpcodeBytesDecode : Obligations.SampleOpcodeBytesDecode :=
  ⟨decode_of_opcode rfl _, decode_of_opcode rfl _, decode_of_opcode rfl _, decode_of_opcode rfl _, decode_of_opcode rfl _,
    decode_of_opcode rfl _, decode_of_opcode rfl _⟩

end Sys2Proof.Proofs
end

/-! Proofs of the family 40_clock_divider: what ADVANCE and the end of a tick do to the divider (R100 to R102), and the half-cycle as a count
of the ticks since RESET (R103). -/

section
namespace Sys2Proof.Proofs

open Sys2Proof.Machine

/-! ## The divider in numbers -/

/-- R101: phi is high in the first four half-cycles. -/
theorem phaseOf_eq_decide (h : HalfCycle) : phaseOf h = decide (h.toNat < 4) := by
  have hbit : h.getLsbD 2 = decide (4 ≤ h.toNat) := BitVec.msb_eq_decide h
  rw [phaseOf, hbit, ← decide_not, decide_eq_decide, Nat.not_le]

theorem phaseOf_eq_false_iff (h : HalfCycle) :
    phaseOf h = false ↔ h.toNat = 4 ∨ h.toNat = 5 ∨ h.toNat = 6 ∨ h.toNat = 7 := by
  rw [phaseOf_eq_decide, decide_eq_false_iff_not]
  omega

/-- R100: the next half-cycle, modulo 8. -/
theorem halfCycle_succ_toNat (h : HalfCycle) : (h + 1#3).toNat = (h.toNat + 1) % 8 := BitVec.toNat_add h 1#3

/-- Settles O4: the new half-cycle is the old one plus one as a number modulo 8, and its phase is by its number. -/
theorem advanceStepsHalfCycleAndPhase : Obligations.AdvanceStepsHalfCycleAndPhase := by
  intro s hlive
  have hadvance : exec .advance s = .next (advance s) := guarded_live hlive _
  rw [hadvance, advance_eq, phaseOf_eq_decide, ← halfCycle_succ_toNat, BitVec.ofNat_toNat, BitVec.setWidth_eq]

/-! ## One command -/

/-- A tick advances the divider once, from the half-cycle before the tick: neither a handler nor the fetch moves it (R102). -/
theorem tick_advances {s t : State} (h : exec .tick s = .next t) : ∃ v, t = advance v ∧ v.core.halfCycle = s.core.halfCycle := by
  obtain ⟨v, rfl, ⟨_, f⟩ | ⟨_, u, f, g⟩ | ⟨_, rfl⟩⟩ := tick_frames h
  · exact ⟨v, rfl, f.halfCycle⟩
  · exact ⟨v, rfl, g.halfCycle.trans f.halfCycle⟩
  · exact ⟨v, rfl, rfl⟩

/-- Settles O5. -/
theorem everyTickAdvancesOnceInEveryMode : Obligations.EveryTickAdvancesOnceInEveryMode := by
  intro s t h
  obtain ⟨v, rfl, hv⟩ := tick_advances h
  exact ⟨hv ▸ halfCycle_succ_toNat v.core.halfCycle, rfl⟩

/-- R103: no command but a tick and RESET moves the divider; ADVANCE is not a command of an outside agent (R102). -/
theorem command_halfCycle {c : Command} {s t : State} (htick : c ≠ .tick) (hreset : c ≠ .reset) (h : exec c.toInstr s = .next t) :
    t.core.halfCycle = s.core.halfCycle := by
  obtain ⟨hnotTick, hnotAdvance, hnotReset⟩ : c.toInstr ≠ .tick ∧ c.toInstr ≠ .advance ∧ c.toInstr ≠ .reset := by
    cases c <;> simp_all [Command.toInstr]
  exact (exec_invFrame hnotTick hnotAdvance hnotReset h).halfCycle

/-! ## Runs of commands -/

/-- A run that ends ran its first command to a state from which the others ran. -/
theorem runCommands_cons_next {c : Command} {cs : List Command} {s t : State} (h : runCommands (c :: cs) s = .next t) :
    ∃ u, exec c.toInstr s = .next u ∧ runCommands cs u = .next t := by
  rw [runCommands] at h
  cases hc : exec c.toInstr s <;> simp only [hc, reduceCtorEq] at h
  exact ⟨_, rfl, h⟩

/-- R41 along a run. -/
theorem runCommands_inv {cs : List Command} {s t : State} (hinv : s.Inv) (h : runCommands cs s = .next t) : t.Inv := by
  induction cs generalizing s with
  | nil =>
    cases h
    exact hinv
  | cons c cs ih =>
    obtain ⟨u, hc, hrest⟩ := runCommands_cons_next h
    exact ih (exec_inv hinv hc).1 hrest

/-- R103 from any start: without RESET a run moves the half-cycle on by the number of its ticks. -/
theorem runCommands_halfCycle {cs : List Command} {s t : State} (hreset : Command.reset ∉ cs) (h : runCommands cs s = .next t) :
    t.core.halfCycle.toNat = (s.core.halfCycle.toNat + cs.count .tick) % 8 := by
  induction cs generalizing s with
  | nil =>
    cases h
    exact (Nat.mod_eq_of_lt t.core.halfCycle.isLt).symm
  | cons c cs ih =>
    obtain ⟨u, hc, hrest⟩ := runCommands_cons_next h
    rw [ih (List.not_mem_of_not_mem_cons hreset) hrest]
    by_cases htick : c = .tick
    · subst htick
      rw [(everyTickAdvancesOnceInEveryMode s u hc).1, List.count_cons_self]
      omega
    · rw [command_halfCycle htick (List.ne_of_not_mem_cons hreset).symm hc, List.count_cons_of_ne htick]

/-- Settles O6: RESET leaves half-cycle 0, the ticks of the run are counted from there, and the invariant of R41 gives phi. -/
theorem halfCycleCountsTheTicksSinceReset : Obligations.HalfCycleCountsTheTicksSinceReset := by
  refine ⟨?_, fun c s t => command_halfCycle⟩
  intro s₀ s t cs hstart hreset hrun
  obtain ⟨_, rfl⟩ := exec_reset_next hstart
  have hcount : t.core.halfCycle.toNat = cs.count .tick % 8 := by
    simpa [resetState] using runCommands_halfCycle hreset hrun
  have hphase := (runCommands_inv (resetState_inv s₀) hrun).1
  refine ⟨hcount, ?_⟩
  rw [hphase, ← hcount]
  exact phaseOf_eq_false_iff t.core.halfCycle

end Sys2Proof.Proofs
end

/-! Proofs of the family 41_bus_transactions: begins and steps (R110 to R113), the rows of the half-cycle timing table (R120 to R127), and
whole transactions stepped once per tick (R130 to R133). -/

section
namespace Sys2Proof.Proofs

open Sys2Proof.Machine

/-! ## Begins and steps in either direction -/

/-- The bus command a fault of a begin records (R201). -/
def beginBusCommand : Direction → BusCommand
  | .read => .beginRead
  | .write => .beginWrite

/-- The bus command a fault of a step records (R201). -/
def stepBusCommand : Direction → BusCommand
  | .read => .stepRead
  | .write => .stepWrite

theorem busy_eq_true {c : CoreState} : c.busy = true ↔ c.readInFlight = true ∨ c.writeInFlight = true := Bool.or_eq_true_iff

/-- The pins after the row of the current half-cycle, for the transaction latched in `s` (R120). -/
def stepPins (dir : Direction) (s : State) : PinSet :=
  rowPins Config.hramWriteHc3 dir (region s.core.addressLatch) s.core.halfCycle s.core.addressLatch s.core.dataLatch s.pins

section Commands
variable {dir : Direction} {s : State} (hlive : s.faultRecord = none)
include hlive

theorem exec_beginCommand_busy (hbusy : s.core.busy = true) (a : Addr) (d : Byte) :
    exec (beginCommand dir a d).toInstr s = .fault (raiseBeginBusy (beginBusCommand dir) s) := by
  cases dir with
  | read => exact (guarded_live hlive (beginRead a s)).trans (by simp [beginRead, hbusy, complete, beginBusCommand])
  | write => exact (guarded_live hlive (beginWrite a d s)).trans (by simp [beginWrite, hbusy, complete, beginBusCommand])

theorem exec_stepCommand_idle (hidle : inFlight dir s = false) :
    exec (stepCommand dir).toInstr s = .fault (raiseStepIdle (stepBusCommand dir) s) := by
  cases dir with
  | read =>
    replace hidle : s.core.readInFlight = false := hidle
    refine (guarded_live hlive (keepStepResult (stepRead s))).trans ?_
    simp [stepRead, hidle, keepStepResult, Except.map, complete, stepBusCommand]
  | write =>
    replace hidle : s.core.writeInFlight = false := hidle
    refine (guarded_live hlive (keepStepResult (stepWrite s))).trans ?_
    simp [stepWrite, hidle, keepStepResult, Except.map, complete, stepBusCommand]

/-- At rows 0 to 6 a step samples and writes the pins as its row says, and answers true (R120). -/
theorem exec_stepCommand_before_row_seven (hf : inFlight dir s = true) (hseven : s.core.halfCycle ≠ 7#3) :
    exec (stepCommand dir).toInstr s =
      .next { s with core := { s.core with dataLatch := sampleAtRowSix dir s }, pins := stepPins dir s, stepResult := some true } := by
  rw [exec_stepCommand hlive hf]
  cases dir with
  | read =>
    replace hf : s.core.readInFlight = true := hf
    simp [afterStep, setInFlight, State.setReadInFlight, State.setStepResult, performRow_eq, stepPins, hseven, ← hf]
  | write =>
    replace hf : s.core.writeInFlight = true := hf
    simp [afterStep, setInFlight, State.setWriteInFlight, State.setStepResult, performRow_eq, stepPins, hseven, ← hf]

/-- At rows 0 to 5 a step leaves the core as it is (R121 to R125). -/
theorem exec_stepCommand_before_row_six (hf : inFlight dir s = true) (hrow : s.core.halfCycle.toNat < 6) :
    exec (stepCommand dir).toInstr s = .next { s with pins := stepPins dir s, stepResult := some true } := by
  have hsix : s.core.halfCycle ≠ 6#3 := fun h => by simp [h] at hrow
  have hseven : s.core.halfCycle ≠ 7#3 := fun h => by simp [h] at hrow
  have hsample : sampleAtRowSix dir s = s.core.dataLatch := by cases dir <;> simp [sampleAtRowSix, hsix]
  rw [exec_stepCommand_before_row_seven hlive hf hseven, hsample]

end Commands

/-- Settles O7. -/
theorem beginReadStagesTheAddressOrFaults : Obligations.BeginReadStagesTheAddressOrFaults := fun a _ hlive =>
  ⟨fun hidle => exec_beginCommand (dir := .read) hlive (busy_eq_false.mpr hidle) a 0#8,
    fun hbusy => exec_beginCommand_busy (dir := .read) hlive (busy_eq_true.mpr hbusy) a 0#8⟩

/-- Settles O8. -/
theorem beginWriteStagesAddressAndByteOrFaults : Obligations.BeginWriteStagesAddressAndByteOrFaults := fun a d _ hlive =>
  ⟨fun hidle => exec_beginCommand (dir := .write) hlive (busy_eq_false.mpr hidle) a d,
    fun hbusy => exec_beginCommand_busy (dir := .write) hlive (busy_eq_true.mpr hbusy) a d⟩

/-- Settles O9. -/
theorem stepReadPerformsTheRowOrFaults : Obligations.StepReadPerformsTheRowOrFaults := fun _ hlive =>
  ⟨exec_stepCommand (dir := .read) hlive, exec_stepCommand_idle (dir := .read) hlive⟩

/-- Settles O10. -/
theorem stepWritePerformsTheRowOrFaults : Obligations.StepWritePerformsTheRowOrFaults := fun _ hlive =>
  ⟨exec_stepCommand (dir := .write) hlive, exec_stepCommand_idle (dir := .write) hlive⟩

/-! ## The rows -/

/-- The HRAM_IO class is one region (R52, R53). -/
theorem region_hramIoClass {a : Addr} (h : InHramIoClass a) : region a = .hramIo := by
  rcases h with ⟨hlow, hhigh⟩ | hlow
  · exact region_other hlow hhigh
  · exact region_hramIo hlow

/-- Settles O12: the row asks neither the direction nor the region. -/
theorem rowZeroDeselectsAndAssertsRead : Obligations.RowZeroDeselectsAndAssertsRead := by
  intro s hlive hzero
  have hrow (dir : Direction) (hf : inFlight dir s = true) :
      ∃ t, exec (stepCommand dir).toInstr s = .next t ∧ t.core = s.core ∧ t.pins = rowZero s.pins :=
    ⟨_, exec_stepCommand_before_row_six hlive hf (by simp [hzero]), rfl, by simp [stepPins, hzero]⟩
  exact ⟨hrow .read, hrow .write⟩

/-! Rows 1 and 3 in the regions with an external interface, ROM and RAM (R54). -/

section External
variable {r : Region} (h : r ≠ .hramIo) (l : Addr) (p : PinSet)
include h

theorem rowOne_read : rowOne .read r l p = { p with readStrobe := true, address := placeLowAddress p.address l } := by
  cases r with
  | hramIo => exact absurd rfl h
  | rom | ram => rfl

theorem rowOne_write : rowOne .write r l p = { p with address := placeLowAddress p.address l } := by
  cases r with
  | hramIo => exact absurd rfl h
  | rom | ram => rfl

theorem rowThree_write (hc3 : HramWriteHc3) (d : Byte) : rowThree hc3 .write r d p = { p with writeStrobe := false, data := d } := by
  cases r with
  | hramIo => exact absurd rfl h
  | rom | ram => rfl

end External

/-- Settles O13. -/
theorem rowOnePlacesTheLowAddress : Obligations.RowOnePlacesTheLowAddress := by
  intro s hlive hone
  have hrow (dir : Direction) (hf : inFlight dir s = true) :=
    exec_stepCommand_before_row_six hlive hf (by simp [hone])
  have hpins (dir : Direction) : stepPins dir s = rowOne dir (region s.core.addressLatch) s.core.addressLatch s.pins := by simp [stepPins, hone]
  refine ⟨fun hf => ⟨_, hrow .read hf, rfl, fun ha => ?_, fun ha => ?_⟩, fun hf => ⟨_, hrow .write hf, rfl, fun ha => ?_, fun ha => ?_⟩⟩
  · exact (hpins .read).trans (rowOne_read (region_ne_hramIo ha) _ _)
  · exact (hpins .read).trans (by rw [region_hramIoClass ha]; rfl)
  · exact (hpins .write).trans (rowOne_write (region_ne_hramIo ha) _ _)
  · exact (hpins .write).trans (by rw [region_hramIoClass ha]; rfl)

/-- Settles O14. -/
theorem rowTwoSelectsTheRegion : Obligations.RowTwoSelectsTheRegion := by
  intro s hlive htwo
  have hrow (dir : Direction) (hf : inFlight dir s = true) :
      ∃ t, exec (stepCommand dir).toInstr s = .next t ∧ t.core = s.core ∧
        (InRom s.core.addressLatch → t.pins = { s.pins with address := s.pins.address &&& 0x7FFF#16 }) ∧
        (InRam s.core.addressLatch → t.pins = { s.pins with chipSelect := false }) ∧
        (InHramIoClass s.core.addressLatch → t.pins = s.pins) := by
    have hpins : stepPins dir s = rowTwo (region s.core.addressLatch) s.pins := by simp [stepPins, htwo]
    refine ⟨_, exec_stepCommand_before_row_six hlive hf (by simp [htwo]), rfl, fun hrom => ?_, fun ⟨hlow, hhigh⟩ => ?_, fun hio => ?_⟩
    · exact hpins.trans (by rw [region_rom hrom]; rfl)
    · exact hpins.trans (by rw [region_ram hlow hhigh]; rfl)
    · exact hpins.trans (by rw [region_hramIoClass hio]; rfl)
  rintro i (⟨rfl, hf⟩ | ⟨rfl, hf⟩)
  · exact hrow .read hf
  · exact hrow .write hf

/-- Settles O15: HRAM_WRITE_HC3 decides in the HRAM_IO class alone. -/
theorem rowThreeCommitsTheWrite : Obligations.RowThreeCommitsTheWrite := by
  intro s hlive hthree
  have hrow (dir : Direction) (hf : inFlight dir s = true) :=
    exec_stepCommand_before_row_six hlive hf (by simp [hthree])
  have hpins (dir : Direction) : stepPins dir s = rowThree Config.hramWriteHc3 dir (region s.core.addressLatch) s.core.dataLatch s.pins := by
    simp [stepPins, hthree]
  refine ⟨fun hf => ⟨_, hrow .read hf, rfl, hpins .read⟩, fun hf => ⟨_, hrow .write hf, rfl, fun ha => ?_, fun ha => ?_⟩⟩
  · exact (hpins .write).trans (rowThree_write (region_ne_hramIo ha) _ _ _)
  · have hio : stepPins .write s = hramWriteRowThree Config.hramWriteHc3 s.core.dataLatch s.pins :=
      (hpins .write).trans (by rw [region_hramIoClass ha]; rfl)
    exact ⟨fun hc3 => hio.trans (by rw [hc3]; rfl), fun hc3 => hio.trans (by rw [hc3]; rfl), fun hc3 => hio.trans (by rw [hc3]; rfl)⟩

/-- Settles O16. -/
theorem rowsFourAndFiveWait : Obligations.RowsFourAndFiveWait := by
  intro s hlive hwait
  have hrow (dir : Direction) (hf : inFlight dir s = true) :
      exec (stepCommand dir).toInstr s = .next { s with stepResult := some true } := by
    rw [exec_stepCommand_before_row_six hlive hf (by rcases hwait with h | h <;> simp [h])]
    rcases hwait with h | h <;> simp [stepPins, h]
  rintro i (⟨rfl, hf⟩ | ⟨rfl, hf⟩)
  · exact hrow .read hf
  · exact hrow .write hf

/-- Settles O17. -/
theorem rowSixSamplesOrReleasesWrite : Obligations.RowSixSamplesOrReleasesWrite := by
  intro s hlive hsix
  have hseven : s.core.halfCycle ≠ 7#3 := by simp [hsix]
  have hpins (dir : Direction) : stepPins dir s = rowSix dir s.pins := by simp [stepPins, hsix]
  have hsample : sampleAtRowSix .read s = s.pins.data := by simp [sampleAtRowSix, hsix]
  constructor
  · intro hf
    exact (exec_stepCommand_before_row_seven (dir := .read) hlive hf hseven).trans (by rw [hpins, hsample]; rfl)
  · intro hf
    exact (exec_stepCommand_before_row_seven (dir := .write) hlive hf hseven).trans (by rw [hpins]; rfl)

/-- Settles O18. -/
theorem rowSevenCompletes : Obligations.RowSevenCompletes := by
  intro s hlive hseven
  constructor
  · intro hf
    rw [(stepReadPerformsTheRowOrFaults s hlive).1 hf]
    simp [hseven]
  · intro hf
    rw [(stepWritePerformsTheRowOrFaults s hlive).1 hf]
    simp [hseven]

/-! ## A row performed twice -/

/-- No row reads a pin that it writes to another level, so a row performed twice is performed once (R131 (c)). -/
theorem rowPins_idem (hc3 : HramWriteHc3) (dir : Direction) (r : Region) (h : HalfCycle) (l : Addr) (d : Byte) (p : PinSet) :
    rowPins hc3 dir r h l d (rowPins hc3 dir r h l d p) = rowPins hc3 dir r h l d p := by
  rcases halfCycle_cases h with rfl | rfl | rfl | rfl | rfl | rfl | rfl | rfl
  · simp [rowZero, BitVec.or_assoc]
  · cases r <;> cases dir <;> simp [rowOne, placeLowAddress, BitVec.and_or_distrib_right, BitVec.and_assoc]
  · cases r <;> simp [rowTwo, BitVec.and_assoc]
  · cases dir <;> cases r <;> cases hc3 <;> rfl
  · rfl
  · rfl
  · cases dir <;> rfl
  · rfl

/-- A row does not touch the data pins a read samples, nor the data latch a write drives. -/
theorem performRow_idem (dir : Direction) (s : State) : performRow dir (performRow dir s) = performRow dir s := by
  cases dir with
  | read =>
    by_cases hsix : s.core.halfCycle = 6#3
    · simp [performRow_eq, sampleAtRowSix, hsix, rowSix]
    · simp [performRow_eq, sampleAtRowSix, hsix, rowPins_idem]
  | write => simp [performRow_eq, sampleAtRowSix, rowPins_idem]

/-- A step's flag and result have no part in the row performed next. -/
theorem performRow_afterStep (dir : Direction) (s : State) : performRow dir (afterStep dir s) = afterStep dir s := by
  have hflag (b : Bool) (r : Option Bool) (u : State) :
      performRow dir ((setInFlight dir b u).setStepResult r) = (setInFlight dir b (performRow dir u)).setStepResult r := by
    cases dir <;> rfl
  rw [afterStep, hflag, performRow_idem]

theorem afterStep_idem (dir : Direction) (s : State) : afterStep dir (afterStep dir s) = afterStep dir s := by
  rw [afterStep, performRow_afterStep, afterStep_halfCycle]
  cases dir <;> rfl

theorem exec_stepCommand_next {dir : Direction} {s t : State} (h : exec (stepCommand dir).toInstr s = .next t) :
    s.faultRecord = none ∧ t = afterStep dir s := by
  cases dir with
  | read =>
    obtain ⟨hlive, _, ht⟩ := exec_stepRead_next h
    exact ⟨hlive, ht⟩
  | write =>
    obtain ⟨hlive, _, ht⟩ := exec_stepWrite_next h
    exact ⟨hlive, ht⟩

/-- Settles O19: before row 7 the transaction is still in flight, so the same row is performed; after row 7 none is. -/
theorem secondStepInATickRepeatsTheRow : Obligations.SecondStepInATickRepeatsTheRow := by
  have hsecond (dir : Direction) (s t : State) (h : exec (stepCommand dir).toInstr s = .next t) :
      (s.core.halfCycle ≠ 7#3 → exec (stepCommand dir).toInstr t = .next t) ∧
      (s.core.halfCycle = 7#3 → exec (stepCommand dir).toInstr t = .fault (.stepIdle { t with
        faultRecord := some { code := .stepIdle, command := stepBusCommand dir, halfCycle := 7#3 } })) := by
    obtain ⟨hlive, rfl⟩ := exec_stepCommand_next h
    replace hlive : (afterStep dir s).faultRecord = none := by rw [afterStep_faultRecord, hlive]
    constructor
    · intro hrow
      rw [exec_stepCommand hlive (by simp [hrow]), afterStep_idem]
    · intro hseven
      rw [exec_stepCommand_idle hlive (by simp [hseven]), raiseStepIdle, recordFault, afterStep_halfCycle, hseven]
      rfl
  exact ⟨hsecond .read, hsecond .write⟩

/-! ## Transactions stepped once per tick -/

section Turns
variable (dir : Direction) (e : Option Byte) (s : State)

theorem afterTurn_programCounter : (afterTurn dir e s).core.programCounter = s.core.programCounter := by cases dir <;> cases e <;> rfl
theorem afterTurn_instructionLatch : (afterTurn dir e s).core.instructionLatch = s.core.instructionLatch := by
  cases dir <;> cases e <;> rfl
theorem afterTurn_handlerState : (afterTurn dir e s).handlerState = s.handlerState := by cases dir <;> cases e <;> rfl
theorem afterTurn_dataLatch : (afterTurn dir e s).core.dataLatch = sampleAtRowSix dir (afterEnvironment e s) := by cases dir <;> rfl
theorem inFlight_afterTurn : inFlight dir (afterTurn dir e s) = decide (s.core.halfCycle ≠ 7#3) := by
  cases dir <;> cases e <;> rfl
theorem afterTurn_stepResult : (afterTurn dir e s).stepResult = some (decide (s.core.halfCycle ≠ 7#3)) := by
  cases dir <;> cases e <;> rfl

end Turns

/-- What a transaction of `dir`, in flight in `s`, has done and kept once the rows from the half-cycle of `s` to row `n` - 1 are performed
(R130, R132). Only row 6 of a read writes the data latch (R126). -/
structure SteppedFrom (dir : Direction) (s : State) (n : Nat) (t : State) : Prop where
  start : s.core.halfCycle.toNat ≤ n
  inFlight : inFlight dir t = decide (n < 8)
  stepResult : s.core.halfCycle.toNat < n → t.stepResult = some (decide (n < 8))
  programCounter : t.core.programCounter = s.core.programCounter
  instructionLatch : t.core.instructionLatch = s.core.instructionLatch
  handlerState : t.handlerState = s.handlerState
  dataLatch : dir = .write ∨ s.core.halfCycle.toNat = 7 ∨ n ≤ 6 → t.core.dataLatch = s.core.dataLatch

section Stepped
variable {dir : Direction} {a : Addr} {n : Nat} {s t : State}

theorem SteppedFrom.refl (hf : Proofs.inFlight dir s = true) : SteppedFrom dir s s.core.halfCycle.toNat s where
  start := le_rfl
  inFlight := by simpa [hf] using s.core.halfCycle.isLt
  stepResult h := absurd h (lt_irrefl _)
  programCounter := rfl
  instructionLatch := rfl
  handlerState := rfl
  dataLatch _ := rfl

/-- The transaction's row number and its half-cycle agree. -/
theorem TransactionAt.halfCycle_eq_iff (h : TransactionAt dir a n t) (hn : n < 8) {m : Nat} (hm : m < 8) :
    t.core.halfCycle = BitVec.ofNat 3 m ↔ n = m := by
  rw [h.halfCycle, halfCycle_ofNat_inj hn hm]

theorem SteppedFrom.succ (h : SteppedFrom dir s n t) (htrans : TransactionAt dir a n t) (hn : n < 8) (e : Option Byte) :
    SteppedFrom dir s (n + 1) (afterTurn dir e t) := by
  have hseven : decide (t.core.halfCycle ≠ 7#3) = decide (n + 1 < 8) := by
    rw [decide_eq_decide, ne_eq, htrans.halfCycle_eq_iff hn (by decide : 7 < 8)]
    omega
  refine ⟨h.start.trans n.le_succ, (inFlight_afterTurn dir e t).trans hseven, fun _ => ?_,
    (afterTurn_programCounter dir e t).trans h.programCounter, (afterTurn_instructionLatch dir e t).trans h.instructionLatch,
    (afterTurn_handlerState dir e t).trans h.handlerState, fun hkeep => ?_⟩
  · rw [afterTurn_stepResult, hseven]
  · have hstart := h.start
    rw [afterTurn_dataLatch, ← h.dataLatch (hkeep.imp_right (Or.imp_right (by omega)))]
    cases dir with
    | write => simp [sampleAtRowSix]
    | read =>
      have hsix : n ≠ 6 := by
        rcases hkeep with h | h | h
        · cases h
        all_goals omega
      simp [sampleAtRowSix, htrans.halfCycle_eq_iff hn (by decide : 6 < 8), hsix]

/-- A transaction in flight at any half-cycle runs turn after turn, up to its row 7 (R130). -/
theorem stepped_run (hlive : s.faultRecord = none) (htest : s.core.topState = .test) (hf : inFlight dir s = true)
    {turns : List (Option Byte)} (hlen : s.core.halfCycle.toNat + turns.length ≤ 8) :
    ∃ t, runCommands (steppedTicks (stepCommand dir) turns) s = .next t ∧
      TransactionAt dir s.core.addressLatch (s.core.halfCycle.toNat + turns.length) t ∧
      SteppedFrom dir s (s.core.halfCycle.toNat + turns.length) t :=
  steppedTicks_induction (fun _ _ e hn htrans h => h.succ htrans hn e) turns _ s hlen
    ⟨hlive, htest, rfl, by simp, fun _ => hf⟩ (.refl hf)

/-- The byte driven in the turn before row 6 is the one a read samples, and row 7 keeps it (R126). -/
theorem read_samples {e : Byte} {turns : List (Option Byte)} (hlen : n + turns.length ≤ 8) (hsix : n ≤ 6)
    (htrans : TransactionAt .read a n s) (he : turns[6 - n]? = some (some e))
    (hrun : runCommands (steppedTicks (stepCommand .read) turns) s = .next t) : t.core.dataLatch = e := by
  induction turns generalizing n s with
  | nil => simp at he
  | cons turn rest ih =>
    rw [List.length_cons] at hlen
    have hn : n < 8 := by omega
    have hnext := htrans.succ hn turn
    rw [steppedTicks_cons, htrans.runCommands_turn hn turn] at hrun
    rcases hsix.lt_or_eq with hlt | rfl
    · rw [show 6 - n = 6 - (n + 1) + 1 by omega, List.getElem?_cons_succ] at he
      exact ih (by omega) hlt hnext he hrun
    · obtain rfl : turn = some e := by simpa using he
      have hrow : (afterTurn .read (some e) s).core.halfCycle.toNat = 7 := by rw [hnext.halfCycle]; rfl
      obtain ⟨u, hu, _, hkept⟩ := stepped_run hnext.live hnext.test (hnext.begun (by decide)) (turns := rest) (by omega)
      obtain rfl : u = t := by simpa [hu] using hrun
      rw [hkept.dataLatch (.inr (.inl hrow)), afterTurn_dataLatch]
      simp [sampleAtRowSix, htrans.halfCycle, afterEnvironment]

end Stepped

/-- Settles O20. -/
theorem steppedReadCompletesAtRowSeven : Obligations.SteppedReadCompletesAtRowSeven := by
  intro s turns hlive htest hread hturns hlen
  have hpos : 0 < turns.length := List.length_pos_iff.mpr hturns
  obtain ⟨t, hrun, htrans, hstepped⟩ := stepped_run (dir := .read) hlive htest hread hlen
  refine ⟨t, hrun, ?_, hstepped.inFlight, hstepped.stepResult (by omega), htrans.latch, hstepped.programCounter, hstepped.instructionLatch,
    hstepped.handlerState, fun e hsix he => ?_, fun hkeep => hstepped.dataLatch (.inr hkeep)⟩
  · rw [htrans.halfCycle, BitVec.toNat_ofNat]
  · exact read_samples hlen hsix ⟨hlive, htest, rfl, by simp, fun _ => hread⟩ he hrun

/-- Settles O21. -/
theorem steppedWriteCompletesAtRowSeven : Obligations.SteppedWriteCompletesAtRowSeven := by
  intro s turns hlive htest hwrite hturns hlen
  have hpos : 0 < turns.length := List.length_pos_iff.mpr hturns
  obtain ⟨t, hrun, htrans, hstepped⟩ := stepped_run (dir := .write) hlive htest hwrite hlen
  refine ⟨t, hrun, ?_, hstepped.inFlight, hstepped.stepResult (by omega), htrans.latch, hstepped.dataLatch (.inl rfl),
    hstepped.programCounter, hstepped.instructionLatch, hstepped.handlerState⟩
  rw [htrans.halfCycle, BitVec.toNat_ofNat]

/-! ## The select lines (R133) -/

/-- A transaction begun at half-cycle 0 runs turn after turn, and what its begin leaves and each row hands on holds after its last row. -/
theorem begun_induction {P : Nat → State → Prop} {dir : Direction} {a : Addr} {d : Byte} {s : State} (hlive : s.faultRecord = none)
    (htest : s.core.topState = .test) (hidle : s.core.busy = false) (hzero : s.core.halfCycle = 0#3) (hstart : P 0 (afterBegin dir a d s))
    (hrow : ∀ n s e, n < 8 → TransactionAt dir a n s → P n s → P (n + 1) (afterTurn dir e s)) {turns : List (Option Byte)}
    (hlen : turns.length ≤ 8) :
    ∃ t, runCommands (beginCommand dir a d :: steppedTicks (stepCommand dir) turns) s = .next t ∧ P turns.length t := by
  obtain ⟨t, hrun, _, hP⟩ := steppedTicks_induction hrow turns 0 _ (by omega) (afterBegin_transactionAt hlive htest hzero d) hstart
  rw [Nat.zero_add] at hP
  exact ⟨t, by simpa [runCommands, exec_beginCommand hlive hidle] using hrun, hP⟩

/-- Row 0 pulls CS high, and row 2 pulls it low in the RAM region; no other row writes it (R121, R123). -/
theorem rowPins_chipSelect (hc3 : HramWriteHc3) (dir : Direction) (r : Region) (h : HalfCycle) (l : Addr) (d : Byte) (p : PinSet) :
    (rowPins hc3 dir r h l d p).chipSelect = if h = 0#3 then true else if h = 2#3 ∧ r = .ram then false else p.chipSelect := by
  rcases halfCycle_cases h with rfl | rfl | rfl | rfl | rfl | rfl | rfl | rfl
  · rfl
  · cases r <;> rfl
  · cases r <;> rfl
  · cases dir <;> cases r <;> rfl
  · rfl
  · rfl
  · cases dir <;> rfl
  · rfl

/-- The select lines after rows 0 to `n` - 1 of a transaction at `a`: from row 2 on, A15 is the address's own and CS is low for RAM alone; before
it both are high. -/
structure SelectLinesAfter (a : Addr) (n : Nat) (p : PinSet) : Prop where
  address : AddressPinsAfter a n p.address
  chipSelect : 1 ≤ n → p.chipSelect = decide (n < 3 ∨ region a ≠ .ram)

@[simp] theorem afterEnvironment_chipSelect (e : Option Byte) (s : State) : (afterEnvironment e s).pins.chipSelect = s.pins.chipSelect := by
  cases e <;> rfl

theorem SelectLinesAfter.succ {dir : Direction} {a : Addr} {n : Nat} {s : State} (h : SelectLinesAfter a n s.pins) (hn : n < 8)
    (htrans : TransactionAt dir a n s) (e : Option Byte) : SelectLinesAfter a (n + 1) (afterTurn dir e s).pins where
  address := afterTurn_addressPins hn htrans h.address e
  chipSelect _ := by
    simp only [afterTurn, advance_eq, afterStep_pins, rowPins_chipSelect, afterEnvironment_core, afterEnvironment_chipSelect, htrans.latch,
      htrans.halfCycle_eq_iff hn (by decide : 0 < 8), htrans.halfCycle_eq_iff hn (by decide : 2 < 8)]
    split_ifs with hzero htwo
    · simp [hzero]
    · simp [htwo]
    · rw [h.chipSelect (by omega), decide_eq_decide]
      by_cases hram : region a = .ram
      · have : n ≠ 2 := fun h2 => htwo ⟨h2, hram⟩
        simp only [hram, ne_eq, not_true, or_false]
        omega
      · simp [hram]

/-- Settles O22: the select lines go with the rows alike for a read and a write, and the region is told by A15 and by the RAM range. -/
theorem oneSelectLinePerRegion : Obligations.OneSelectLinePerRegion := by
  intro s a d turns hlive htest hread hwrite hzero hone hlen cs hcs
  have hrun (dir : Direction) :
      ∃ t, runCommands (beginCommand dir a d :: steppedTicks (stepCommand dir) turns) s = .next t ∧
        (InRom a → t.pins.address.getLsbD 15 = decide (turns.length < 3) ∧ t.pins.chipSelect = true) ∧
        (InRam a → t.pins.chipSelect = decide (turns.length < 3) ∧ t.pins.address.getLsbD 15 = true) ∧
        (InHramIoClass a → t.pins.address.getLsbD 15 = true ∧ t.pins.chipSelect = true) := by
    obtain ⟨t, hnext, hselect⟩ := begun_induction (P := fun n s => SelectLinesAfter a n s.pins) (d := d) hlive htest
      (busy_eq_false.mpr ⟨hread, hwrite⟩) hzero ⟨⟨nofun, nofun⟩, nofun⟩ (fun _ _ e hn htrans h => h.succ hn htrans e) hlen
    have ha15 := hselect.address.a15 hone
    have hchip := hselect.chipSelect hone
    rw [getLsbD_fifteen a] at ha15
    refine ⟨t, hnext, fun hrom => ?_, fun ⟨hlow, hhigh⟩ => ?_, fun hio => ?_⟩
    · have hlow : ¬ 0x8000 ≤ a.toNat := by unfold InRom at hrom; omega
      exact ⟨by simpa [hlow] using ha15, by simpa [region_rom hrom] using hchip⟩
    · have hhigh' : 0x8000 ≤ a.toNat := by omega
      exact ⟨by simpa [region_ram hlow hhigh] using hchip, by simpa [hhigh'] using ha15⟩
    · have hhigh : 0x8000 ≤ a.toNat := by unfold InHramIoClass at hio; omega
      exact ⟨by simpa [hhigh] using ha15, by simpa [region_hramIoClass hio] using hchip⟩
  rcases hcs with rfl | rfl
  · exact hrun .read
  · exact hrun .write

end Sys2Proof.Proofs
end

/-! Proofs of the family 42_fetch_execute: what a tick does in each mode (R150 to R162), the first fetch from begin to end (R165), the changes of
mode (R161, R163), and the harness's writes in TEST (R164). -/

section
namespace Sys2Proof.Proofs

open Sys2Proof.Machine

/-! ## The fetch of one tick -/

/-- The fetch issue writes three core fields, and those only where no read is in flight (R153). -/
theorem withFetchInFlight_eq (s : State) : withFetchInFlight s =
    { s with core := { s.core with
        programCounter := if !s.core.readInFlight then s.core.programCounter + 1#16 else s.core.programCounter
        addressLatch := if !s.core.readInFlight then s.core.programCounter else s.core.addressLatch
        readInFlight := true } } := by
  unfold withFetchInFlight
  cases hread : s.core.readInFlight with
  | false => rfl
  | true => simp [← hread]

/-- A completed fetch latches the opcode in every mode, and enters EXECUTE from FETCH alone (R154, R159). -/
theorem fetchDone_eq (s : State) : fetchDone s =
    { s with core := { s.core with
        instructionLatch := s.core.dataLatch
        topState := if s.core.topState = .fetch then .execute else s.core.topState } } := by
  unfold fetchDone
  cases hmode : s.core.topState <;> simp [State.setInstructionLatch, State.setTopState, hmode]

/-- With no write in the way of its begin, the fetch of a tick and the advance after it leave `afterFetchTick` (R152 to R154). -/
theorem endTick_fetchStep {s : State} (h : s.core.readInFlight = true ∨ s.core.writeInFlight = false) :
    endTick (fetchStep s) = .ok (afterFetchTick s) := by
  rcases fetchStep_cases (r := fetchStep s) rfl with ⟨_, hseven, he⟩ | ⟨_, hrow, he⟩ | ⟨hread, hwrite, _⟩
  · rw [he, fetchDone_eq, withFetchInFlight_eq, performRow_eq]
    simp [endTick, Except.map, advance_eq, afterFetchTick, sampleAtRowSix, State.setReadInFlight, hseven]
  · rw [he, withFetchInFlight_eq, performRow_eq]
    simp [endTick, Except.map, advance_eq, afterFetchTick, sampleAtRowSix, hrow]
  · simp [hread, hwrite] at h

/-- With a write in flight and no read, the fetch faults at its begin, and the tick does not advance (R168, R202). -/
theorem endTick_fetchStep_busy {s : State} (hread : s.core.readInFlight = false) (hwrite : s.core.writeInFlight = true) :
    endTick (fetchStep s) = .error (raiseBeginBusy .beginRead s) := by
  rcases fetchStep_cases (r := fetchStep s) rfl with ⟨hbegin, _⟩ | ⟨hbegin, _⟩ | ⟨_, _, he⟩
  · simp [hread, hwrite] at hbegin
  · simp [hread, hwrite] at hbegin
  · rw [he]
    rfl

/-! ## A tick in each mode -/

theorem exec_tick_fetch {s : State} (hlive : s.faultRecord = none) (hfetch : s.core.topState = .fetch) :
    exec .tick s = complete (endTick (fetchStep s)) := by
  simp only [exec, execTick, hfetch, guarded_live hlive]

theorem exec_tick_fetch_of_begin {s : State} (hlive : s.faultRecord = none) (hfetch : s.core.topState = .fetch)
    (hbegin : s.core.readInFlight = true ∨ s.core.writeInFlight = false) : exec .tick s = .next (afterFetchTick s) := by
  rw [exec_tick_fetch hlive hfetch, endTick_fetchStep hbegin]
  rfl

theorem exec_tick_fetch_of_busy {s : State} (hlive : s.faultRecord = none) (hfetch : s.core.topState = .fetch)
    (hread : s.core.readInFlight = false) (hwrite : s.core.writeInFlight = true) :
    exec .tick s = .fault (raiseBeginBusy .beginRead s) := by
  rw [exec_tick_fetch hlive hfetch, endTick_fetchStep_busy hread hwrite]
  rfl

/-- In EXECUTE the tick goes on from the state the latched row's handler left (R156, R158). -/
theorem exec_tick_after_handler {s t : State} (hexecute : s.core.topState = .execute)
    (hhandler : exec (decodeOpcode s.core.instructionLatch) s = .next t) :
    exec .tick s = complete (endTick (fetchAfterHandler t)) := by
  rw [exec_tick_execute hexecute, hhandler]
  rfl

theorem fetchAfterHandler_finalCycle {t : State} (hreply : t.handlerReply = some .finalCycle) : fetchAfterHandler t = fetchStep t := by
  simp only [fetchAfterHandler, hreply]

theorem fetchAfterHandler_moreCycles {t : State} (hreply : t.handlerReply = some .moreCycles) : fetchAfterHandler t = .ok t := by
  simp only [fetchAfterHandler, hreply]

/-- On FINAL_CYCLE the fetch is the one of FETCH, run from the state the handler left (R156, R167). -/
theorem exec_tick_finalCycle {s t : State} (hexecute : s.core.topState = .execute)
    (hhandler : exec (decodeOpcode s.core.instructionLatch) s = .next t) (hreply : t.handlerReply = some .finalCycle)
    (hbegin : t.core.readInFlight = true ∨ t.core.writeInFlight = false) : exec .tick s = .next (afterFetchTick t) := by
  rw [exec_tick_after_handler hexecute hhandler, fetchAfterHandler_finalCycle hreply, endTick_fetchStep hbegin]
  rfl

/-- Settles O28. -/
theorem fetchTickRunsTheFetchAlone : Obligations.FetchTickRunsTheFetchAlone := fun _ hlive hfetch =>
  ⟨exec_tick_fetch_of_begin hlive hfetch, fun ⟨hread, hwrite⟩ => exec_tick_fetch_of_busy hlive hfetch hread hwrite⟩

/-- Settles O29: after the handler the tick goes on by its reply alone. -/
theorem executeTickFollowsTheHandlersReply : Obligations.ExecuteTickFollowsTheHandlersReply := by
  intro s _ hexecute
  constructor
  · intro t hhandler
    refine ⟨fun hreply => ?_, exec_tick_finalCycle hexecute hhandler, fun hreply ⟨hread, hwrite⟩ => ?_⟩
    · rw [exec_tick_after_handler hexecute hhandler, fetchAfterHandler_moreCycles hreply]
      rfl
    · rw [exec_tick_after_handler hexecute hhandler, fetchAfterHandler_finalCycle hreply, endTick_fetchStep_busy hread hwrite]
      rfl
  · intro f hfault
    rw [exec_tick_execute hexecute, hfault]
    rfl

/-- Settles O30. -/
theorem testTickOnlyAdvances : Obligations.TestTickOnlyAdvances := fun _ => exec_tick_test

/-- Settles O27: the row the decoder gives for the latched byte is the one the tick runs. -/
theorem stepRunsTheLatchedInstruction : Obligations.StepRunsTheLatchedInstruction := by
  intro s i rest hnone hexecute hdecode
  rw [decode] at hdecode
  cases hdecode
  rw [step_of_commands_nil hnone, exec_tick_execute hexecute]

/-- Settles O33: the handler moves neither the half-cycle nor the mode, so its fetch is at half-cycle 7, which is not the row that samples. -/
theorem fetchBegunAtHalfCycleSevenDoesNotSample : Obligations.FetchBegunAtHalfCycleSevenDoesNotSample := by
  intro s t _ hexecute hseven hhandler hreply hread hwrite
  have hframe := exec_opcode_handlerFrame (decodeOpcode_isOpcode _) hhandler
  have hseven' : t.core.halfCycle = 7#3 := hframe.halfCycle.trans hseven
  have hexecute' : t.core.topState = .execute := hframe.topState.trans hexecute
  refine ⟨afterFetchTick t, exec_tick_finalCycle hexecute hhandler hreply (.inr hwrite), ?_⟩
  simp [afterFetchTick, hread, hseven', hexecute']

/-! ## The mode -/

/-- A tick in FETCH that does not fault had no write in the way of its fetch. -/
theorem exec_tick_fetch_next {s t : State} (hfetch : s.core.topState = .fetch) (h : exec .tick s = .next t) : t = afterFetchTick s := by
  have hlive := exec_next_live h
  by_cases hbegin : s.core.readInFlight = true ∨ s.core.writeInFlight = false
  · rw [exec_tick_fetch_of_begin hlive hfetch hbegin] at h
    cases h
    rfl
  · obtain ⟨hread, hwrite⟩ := not_or.mp hbegin
    rw [exec_tick_fetch_of_busy hlive hfetch (by simpa using hread) (by simpa using hwrite)] at h
    cases h

/-- Settles O52: only three instructions write the mode (R36), and each writes one value. -/
theorem modeChangesOnlyAsTheRulesSay : Obligations.ModeChangesOnlyAsTheRulesSay := by
  intro i s t hexec hchange
  obtain ⟨_, _, _, _, _, _, _, hwriter, _⟩ := fieldsChangeOnlyByTheirWriters i s t hexec
  rcases hwriter hchange with ⟨rfl, hfetch, hseven⟩ | rfl | rfl
  · obtain rfl := exec_tick_fetch_next hfetch hexec
    exact .inr (.inr ⟨rfl, hfetch, hseven, by simp [afterFetchTick, hfetch, hseven]⟩)
  · obtain ⟨_, rfl⟩ := exec_enterTest_next hexec
    exact .inr (.inl ⟨rfl, rfl⟩)
  · obtain ⟨_, rfl⟩ := exec_reset_next hexec
    exact .inl ⟨rfl, rfl⟩

theorem exec_enterTest {s : State} (hlive : s.faultRecord = none) : exec .enterTest s = .next (s.setTopState .test) := guarded_live hlive _

/-- Settles O34: the ways out of TEST are among the changes of mode, of which RESET alone leads out of TEST. -/
theorem enterTestSetsTheModeAndOnlyResetLeavesIt : Obligations.EnterTestSetsTheModeAndOnlyResetLeavesIt := by
  refine ⟨fun s hlive => ⟨exec_enterTest hlive, fun htest => ?_⟩, fun i s t htest hexec hreset => ?_⟩
  · have hsame : s.setTopState .test = s := by rw [← htest]; rfl
    rw [exec_enterTest hlive, hsame]
  · by_contra hleft
    rcases modeChangesOnlyAsTheRulesSay i s t hexec (htest ▸ hleft) with ⟨hi, _⟩ | ⟨_, hmode⟩ | ⟨_, hfetch, _⟩
    · exact hreset hi
    · exact hleft hmode
    · simp [htest] at hfetch

/-! ## The harness -/

theorem exec_harnessSet {s : State} (hlive : s.faultRecord = none) (w : HarnessWrite) : exec (.harnessSet w) s = harnessSet w s :=
  ifLive_live hlive _

/-- Settles O35: each of the nine writes is the one field's update. -/
theorem harnessSetWritesTheNamedFieldInTest : Obligations.HarnessSetWritesTheNamedFieldInTest := by
  intro s hlive htest
  have hwrite {w : HarnessWrite} {t : State} (happly : w.apply s = some t) : exec (.harnessSet w) s = .next t :=
    (exec_harnessSet hlive w).trans (harnessSet_test htest happly)
  exact ⟨fun _ => hwrite rfl, fun _ => hwrite rfl, fun _ => hwrite rfl, fun _ => hwrite rfl, fun _ => hwrite rfl, fun _ => hwrite rfl,
    fun _ => hwrite rfl, fun _ => hwrite rfl, fun _ => hwrite rfl⟩

/-- Outside TEST no field may be written (R164). -/
theorem harnessSet_outside_test {s : State} (hmode : s.core.topState ≠ .test) (w : HarnessWrite) :
    harnessSet w s = .refused .harnessOutsideTest := by
  unfold harnessSet
  cases hm : s.core.topState with
  | test => exact absurd hm hmode
  | fetch | execute => rfl

/-- The fields out of contract are the five the harness may not write (R164). -/
theorem harnessApply_of_not_allowed {w : HarnessWrite} (h : w.allowed = false) (s : State) : w.apply s = none := by
  cases w with
  | halfCycle _ | phase _ | readInFlight _ | writeInFlight _ | topState _ => rfl
  | _ => cases h

/-- Settles O36. -/
theorem harnessSetIsRefusedOutsideItsContract : Obligations.HarnessSetIsRefusedOutsideItsContract := by
  intro s w hlive
  rw [exec_harnessSet hlive]
  refine ⟨fun hmode => harnessSet_outside_test hmode w, fun htest hcontract => ?_⟩
  simp only [harnessSet, htest, harnessApply_of_not_allowed hcontract]

/-! ## A fetch from half-cycle 0, tick after tick (R165) -/

/-- What a fetch issued at half-cycle 0 has done to the core `c` after the ticks of `turns`, in FETCH or overlapped in EXECUTE: it is in flight
from tick 1, samples at row 6 and completes in tick 8. -/
structure FetchAfter (c : CoreState) (turns : List (Option Byte)) (d : CoreState) : Prop where
  halfCycle : d.halfCycle = BitVec.ofNat 3 turns.length
  programCounter : d.programCounter = if turns = [] then c.programCounter else c.programCounter + 1#16
  addressLatch : turns ≠ [] → d.addressLatch = c.programCounter
  readInFlight : d.readInFlight = decide (turns ≠ [] ∧ turns.length < 8)
  writeInFlight : d.writeInFlight = false
  topState : d.topState = if turns.length = 8 ∧ c.topState = .fetch then .execute else c.topState
  sampled : ∀ e, turns[6]? = some (some e) → d.dataLatch = e
  instructionLatch : d.instructionLatch = if turns.length = 8 then d.dataLatch else c.instructionLatch

theorem FetchAfter.nil {c : CoreState} (hread : c.readInFlight = false) (hwrite : c.writeInFlight = false) (hzero : c.halfCycle = 0#3) :
    FetchAfter c [] c where
  halfCycle := hzero
  programCounter := rfl
  addressLatch := absurd rfl
  readInFlight := hread
  writeInFlight := hwrite
  topState := rfl
  sampled := nofun
  instructionLatch := rfl

/-- The fetch's row number and the half-cycle agree. -/
theorem FetchAfter.halfCycle_eq_iff {c d : CoreState} {turns : List (Option Byte)} (h : FetchAfter c turns d) (hlen : turns.length < 8) {m : Nat}
    (hm : m < 8) : d.halfCycle = BitVec.ofNat 3 m ↔ turns.length = m := by
  rw [h.halfCycle, halfCycle_ofNat_inj hlen hm]

/-- One more turn of the environment and one more tick that runs the fetch. -/
theorem FetchAfter.concat {c : CoreState} {turns : List (Option Byte)} {t : State} (h : FetchAfter c turns t.core) (hlen : turns.length < 8)
    (e : Option Byte) : FetchAfter c (turns ++ [e]) (afterFetchTick (afterEnvironment e t)).core where
  halfCycle := by simp [afterFetchTick, h.halfCycle, BitVec.ofNat_add]
  programCounter := by by_cases hnil : turns = [] <;> simp [afterFetchTick, h.readInFlight, h.programCounter, hlen, hnil]
  addressLatch _ := by
    by_cases hnil : turns = []
    · simp [afterFetchTick, h.readInFlight, h.programCounter, hnil]
    · simp [afterFetchTick, h.readInFlight, h.addressLatch hnil, hlen, hnil]
  readInFlight := by
    have hseven := h.halfCycle_eq_iff hlen (by decide : 7 < 8)
    have hshort : turns.length ≠ 7 ↔ turns.length + 1 < 8 := by omega
    simp [afterFetchTick, hseven, hshort]
  writeInFlight := by simp [afterFetchTick, h.writeInFlight]
  topState := by
    have hseven := h.halfCycle_eq_iff hlen (by decide : 7 < 8)
    simp [afterFetchTick, hseven, h.topState, hlen.ne]
  sampled b hb := by
    have hsix := h.halfCycle_eq_iff hlen (by decide : 6 < 8)
    have hrow : 6 < (turns ++ [e]).length := (List.getElem?_eq_some_iff.mp hb).1
    rw [List.length_append, List.length_singleton, Nat.lt_succ_iff] at hrow
    rcases hrow.eq_or_lt with hnow | hlater
    · obtain rfl : e = some b := by simpa [← hnow] using hb
      simp [afterFetchTick, hsix, ← hnow, afterEnvironment]
    · rw [List.getElem?_append_left hlater] at hb
      simp [afterFetchTick, hsix, hlater.ne', h.sampled b hb]
  instructionLatch := by
    have hseven := h.halfCycle_eq_iff hlen (by decide : 7 < 8)
    simp [afterFetchTick, hseven, h.instructionLatch, hlen.ne]

/-- A run of ticks goes on with one more turn of the environment and one more tick. -/
theorem runCommands_drivenTicks_concat {turns : List (Option Byte)} {e : Option Byte} {s t u : State}
    (hrun : runCommands (drivenTicks turns) s = .next t) (hlive : t.faultRecord = none) (htick : exec .tick (afterEnvironment e t) = .next u) :
    runCommands (drivenTicks (turns ++ [e])) s = .next u := by
  have hturns : drivenTicks (turns ++ [e]) = drivenTicks turns ++ (environmentTurn e ++ [.tick]) := by simp [drivenTicks]
  have htick' : exec Command.tick.toInstr (afterEnvironment e t) = .next u := htick
  simp only [hturns, runCommands_append, hrun, runCommands_environmentTurn hlive, runCommands, htick']

/-- The turns of a first fetch run: it goes on tick by tick, and nothing but the core and the pins changes. -/
theorem firstFetch_run {s : State} (hlive : s.faultRecord = none) (hfetch : s.core.topState = .fetch) (hread : s.core.readInFlight = false)
    (hwrite : s.core.writeInFlight = false) (hzero : s.core.halfCycle = 0#3) {turns : List (Option Byte)} (hlen : turns.length ≤ 8) :
    ∃ t, runCommands (drivenTicks turns) s = .next t ∧ FetchAfter s.core turns t.core ∧ t = { s with core := t.core, pins := t.pins } := by
  induction turns using List.reverseRecOn with
  | nil => exact ⟨s, rfl, .nil hread hwrite hzero, rfl⟩
  | append_singleton turns e ih =>
    rw [List.length_append, List.length_singleton] at hlen
    obtain ⟨t, hrun, hafter, hframe⟩ := ih (by omega)
    have hlive' : t.faultRecord = none := by rw [hframe, hlive]
    have hfetch' : t.core.topState = .fetch := by rw [hafter.topState, if_neg (by omega), hfetch]
    have htick : exec .tick (afterEnvironment e t) = .next (afterFetchTick (afterEnvironment e t)) :=
      exec_tick_fetch_of_begin (by simpa using hlive') (by simpa using hfetch') (.inr (by simpa using hafter.writeInFlight))
    refine ⟨_, runCommands_drivenTicks_concat hrun hlive' htick, hafter.concat (by omega) e, ?_⟩
    cases e <;> rw [hframe] <;> rfl

/-- Settles O31. -/
theorem firstFetchTakesEightTicks : Obligations.FirstFetchTakesEightTicks := by
  intro s turns hlive hfetch hread hwrite hzero hone hlen
  have hturns : turns ≠ [] := List.length_pos_iff.mp hone
  obtain ⟨t, hrun, hafter, hframe⟩ := firstFetch_run hlive hfetch hread hwrite hzero hlen
  refine ⟨t, hrun, ?_, hafter.addressLatch hturns, ?_, ?_, hafter.writeInFlight, by rw [hframe], by rw [hframe], ?_, fun hshort => ?_,
    fun hfull e he => ?_⟩
  · rw [hafter.programCounter, if_neg hturns]
  · rw [hafter.halfCycle, BitVec.toNat_ofNat]
  · simp [hafter.readInFlight, hturns]
  · simp [hafter.topState, hfetch]
  · rw [hafter.instructionLatch, if_neg hshort.ne]
  · rw [hafter.instructionLatch, if_pos hfull, hafter.sampled e he]

end Sys2Proof.Proofs
end

/-! Proofs of the family 43_dispatch: the rows of NOP and of the unimplemented opcodes (R185, R186), what an external handler's invocation does
and where it ends (R182, R183, R187), and NOP's overlapped fetch (R166). -/

section
namespace Sys2Proof.Proofs

open Sys2Proof.Machine

/-! ## NOP and the unimplemented-opcode handler -/

theorem exec_nop {s : State} (hlive : s.faultRecord = none) : exec .nop s = .next (s.setHandlerReply (some .finalCycle)) :=
  guarded_live hlive _

/-- Settles O38. -/
theorem nopAnswersFinalCycleAndChangesNothing : Obligations.NopAnswersFinalCycleAndChangesNothing := fun _ hlive => exec_nop hlive

/-- R186: the count starts again where the handler is past its MORE_CYCLES replies in the last half-cycle. -/
theorem unimplNextCount_eq (more k : Nat) (h : HalfCycle) : unimplNextCount more k h = if more < k ∧ h = 7#3 then 0 else k := by
  by_cases hmore : k ≤ more
  · have hnot : ¬ more < k := by omega
    simp [unimplNextCount, unimplStatus, hmore, hnot]
  · have hpast : more < k := by omega
    simp [unimplNextCount, unimplStatus, hmore, hpast]

/-- Settles O45. -/
theorem unimplementedHandlerCountsItsInstance : Obligations.UnimplementedHandlerCountsItsInstance := by
  intro more s
  rw [invokeUnimplemented, unimplNextCount_eq]
  rfl

/-! ## The effects of a handler on the bus, in either direction -/

/-- The effect that begins a transaction (R183 (b)); a read takes no byte. -/
def beginAction (dir : Direction) (a : Addr) (d : Byte) : HandlerAction :=
  match dir with
  | .read => .beginRead a
  | .write => .beginWrite a d

/-- The effect that steps a transaction (R183 (b)). -/
def stepAction : Direction → HandlerAction
  | .read => .stepRead
  | .write => .stepWrite

/-- The state a handler's step of a transaction in flight leaves: the row performed, and the transaction completed at row 7 (R120, R127). -/
def afterRow (dir : Direction) (s : State) : State := setInFlight dir (decide (s.core.halfCycle ≠ 7#3)) (performRow dir s)

section Actions
variable {dir : Direction} {s : State}

theorem runActions_singleton {a : HandlerAction} {t : State} (h : runAction a s = .ok t) : runActions [a] s = .ok t :=
  runActions_cons_of_ok h []

theorem runAction_beginAction (hidle : s.core.busy = false) (a : Addr) (d : Byte) :
    runAction (beginAction dir a d) s = .ok (afterBegin dir a d s) := by
  cases dir with
  | read => simp [beginAction, runAction, beginRead, hidle, afterBegin]
  | write => simp [beginAction, runAction, beginWrite, hidle, afterBegin]

theorem runAction_stepAction (hf : inFlight dir s = true) : runAction (stepAction dir) s = .ok (afterRow dir s) := by
  cases dir with
  | read =>
    rcases stepRead_cases (r := stepRead s) rfl with ⟨_, hseven, he⟩ | ⟨hread, hseven, he⟩ | ⟨hread, _⟩
    · simp [stepAction, runAction, he, Except.map, afterRow, setInFlight, hseven]
    · simp [stepAction, runAction, he, Except.map, afterRow, setInFlight, hseven, State.setReadInFlight, performRow_eq, hread]
    · exact absurd (hf.symm.trans hread) (by decide)
  | write =>
    rcases stepWrite_cases (r := stepWrite s) rfl with ⟨_, hseven, he⟩ | ⟨hwrite, hseven, he⟩ | ⟨hwrite, _⟩
    · simp [stepAction, runAction, he, Except.map, afterRow, setInFlight, hseven]
    · simp [stepAction, runAction, he, Except.map, afterRow, setInFlight, hseven, State.setWriteInFlight, performRow_eq, hwrite]
    · exact absurd (hf.symm.trans hwrite) (by decide)

/-- A transaction begun may be stepped in the same invocation. -/
theorem runActions_beginAction_stepAction (hidle : s.core.busy = false) (a : Addr) (d : Byte) :
    runActions [beginAction dir a d, stepAction dir] s = .ok (afterRow dir (afterBegin dir a d s)) := by
  rw [runActions_cons_of_ok (runAction_beginAction hidle a d)]
  exact runActions_singleton (runAction_stepAction (by cases dir <;> rfl))

end Actions

/-! ## What the effects of a handler leave unchanged -/

/-- Between `s` and `t` only the core, the pins and the handlers' state may have changed: all that a handler's effects write (R183). -/
def SameOutsideBlock (s t : State) : Prop := t = { s with core := t.core, pins := t.pins, handlerState := t.handlerState }

theorem SameOutsideBlock.trans {s t u : State} (f : SameOutsideBlock s t) (g : SameOutsideBlock t u) : SameOutsideBlock s u := by
  rw [SameOutsideBlock, g, f]

theorem runAction_sameOutsideBlock {a : HandlerAction} {s t : State} (h : runAction a s = .ok t) : SameOutsideBlock s t := by
  rcases runAction_cases h with ⟨_, _, _, rfl⟩ | ⟨_, _, _, _, rfl⟩ | ⟨_, _, _, rfl⟩ | ⟨_, _, _, rfl⟩ | ⟨_, _, _, rfl⟩ |
    ⟨_, _, _, rfl⟩ | ⟨_, _, rfl⟩ | ⟨_, _, rfl⟩ <;> rfl

theorem runActions_sameOutsideBlock {as : List HandlerAction} {s t : State} (h : runActions as s = .ok t) : SameOutsideBlock s t :=
  runActions_relates (R := SameOutsideBlock) (fun _ => rfl) (fun _ _ _ => .trans) (fun _ _ _ => runAction_sameOutsideBlock) as s t h

/-- An opcode's row leaves a reply, and touches none of the model's other fields of its own but the list of answers (R182). -/
theorem exec_opcode_ownFields {i : Instr} {s t : State} (hi : i.opcode ≠ none) (h : exec i s = .next t) :
    t.stepResult = s.stepResult ∧ t.commands = s.commands ∧ t.draws = s.draws ∧ t.handlerReply ≠ none := by
  obtain ⟨_, ⟨_, rfl⟩ | ⟨op, _, _, hinvoke⟩⟩ := exec_opcode_next hi h
  · exact ⟨rfl, rfl, rfl, nofun⟩
  · rcases invokeOpcode_cases hinvoke with ⟨_, rfl⟩ | ⟨_, u, hrun, rfl⟩
    · exact ⟨rfl, rfl, rfl, nofun⟩
    · rw [runActions_sameOutsideBlock hrun]
      rcases dispatchReply_state op s with hstart | ⟨l, hstart⟩ <;> rw [hstart] <;> exact ⟨rfl, rfl, rfl, nofun⟩

/-- Settles O46. -/
theorem handlersKeepToTheirInterface : Obligations.HandlersKeepToTheirInterface := by
  intro i s t hi h
  have f := exec_opcode_handlerFrame hi h
  exact ⟨f.instructionLatch, f.halfCycle, f.topState, f.phase, f.faultRecord, exec_opcode_ownFields hi h⟩

/-! ## An invocation of an external handler -/

/-- An answer carried out: its effects in order and then its Status, or the first fault (R182, R202). -/
def afterAnswer (r : HandlerReply) (s : State) : Host.Outcome State Fault Refusal :=
  match runActions r.actions s with
  | .ok t => .next (t.setHandlerReply (some r.status))
  | .error f => .fault f

theorem afterAnswer_of_ok {r : HandlerReply} {s t : State} (h : runActions r.actions s = .ok t) :
    afterAnswer r s = .next (t.setHandlerReply (some r.status)) := by
  simp only [afterAnswer, h]

theorem afterAnswer_of_error {r : HandlerReply} {s : State} {f : Fault} (h : runActions r.actions s = .error f) :
    afterAnswer r s = .fault f := by
  simp only [afterAnswer, h]

/-- The effects of an answer after its first are an answer of their own, from the state the first left. -/
theorem afterAnswer_cons_of_ok {a : HandlerAction} {s t : State} (h : runAction a s = .ok t) (more : List HandlerAction) (status : Status) :
    afterAnswer { actions := a :: more, status := status } s = afterAnswer { actions := more, status := status } t := by
  simp only [afterAnswer, runActions_cons_of_ok h]

theorem afterAnswer_cons_of_error {a : HandlerAction} {s : State} {f : Fault} (h : runAction a s = .error f) (more : List HandlerAction)
    (status : Status) : afterAnswer { actions := a :: more, status := status } s = .fault f :=
  afterAnswer_of_error (runActions_cons_of_error h more)

section OpcodeRow
variable {i : Instr} {op : Byte} {s : State} (hop : i.opcode = some op) (h0 : op ≠ 0x00#8) (hlive : s.faultRecord = none)
include hop h0 hlive

/-- The row of an opcode 0x01 to 0xFF: the unimplemented-opcode handler, or the external handler's answer carried out (R186, R187). -/
theorem exec_eq_afterAnswer : exec i s =
    if Config.unimpl op then .next (afterUnimplemented s) else afterAnswer (dispatchReply op s).1 (dispatchReply op s).2 := by
  cases hu : Config.unimpl op with
  | true => simpa using exec_of_unimpl hop h0 hlive hu
  | false =>
    cases hrun : runActions (dispatchReply op s).1.actions (dispatchReply op s).2 with
    | ok t => simpa [afterAnswer_of_ok hrun] using exec_of_runActions_ok hop h0 hlive hu hrun
    | error f => simpa [afterAnswer_of_error hrun] using exec_of_runActions_error hop h0 hlive hu hrun

theorem exec_of_listed {r : HandlerReply} {rest : List HandlerReply} (hreplies : s.handlerReplies = r :: rest) : exec i s =
    if Config.unimpl op then .next (afterUnimplemented s) else afterAnswer r (s.setHandlerReplies rest) := by
  rw [exec_eq_afterAnswer hop h0 hlive, dispatchReply_listed hreplies]

theorem exec_of_listed_external (hu : Config.unimpl op = false) {r : HandlerReply} {rest : List HandlerReply}
    (hreplies : s.handlerReplies = r :: rest) : exec i s = afterAnswer r (s.setHandlerReplies rest) := by
  simp [exec_of_listed hop h0 hlive hreplies, hu]

/-- Where effects of an answer left `u`, an answer listed there, with the kept reply put back, is carried out from `u`. -/
theorem exec_putBack_of_sameOutsideBlock (hu : Config.unimpl op = false) {rest : List HandlerReply} {u : State}
    (hsame : SameOutsideBlock (s.setHandlerReplies rest) u) (r : HandlerReply) :
    exec i ((u.setHandlerReply s.handlerReply).setHandlerReplies (r :: rest)) = afterAnswer r u := by
  have hlive' : u.faultRecord = none := by rw [hsame]; exact hlive
  have hback : (u.setHandlerReply s.handlerReply).setHandlerReplies rest = u := by rw [hsame]; rfl
  have hexec := exec_of_listed_external (s := (u.setHandlerReply s.handlerReply).setHandlerReplies (r :: rest)) hop h0 hlive' hu rfl
  exact hexec.trans (congrArg (afterAnswer r) hback)

end OpcodeRow

/-- Settles O44. -/
theorem dispatchAnswersWhereNoneIsListed : Obligations.DispatchAnswersWhereNoneIsListed := by
  intro i op s hop h0 hlive hnone
  rw [exec_eq_afterAnswer hop h0 hlive, dispatchReply_none hnone]
  rfl

/-- Settles O39. -/
theorem opcodesRunTheirHandler : Obligations.OpcodesRunTheirHandler := by
  intro i op s t r rest hop h0 hlive hreplies hrun
  rw [exec_of_listed hop h0 hlive hreplies, afterAnswer_of_ok (s := s.setHandlerReplies rest) hrun, apply_ite Host.Outcome.next]
  rfl

/-- Settles O40: each answer's effects run from the state with the answer used up. -/
theorem handlersReadWriteJumpAndKeepPrivateState : Obligations.HandlersReadWriteJumpAndKeepPrivateState := by
  intro i op s status rest hop h0 hlive
  have answers {as : List HandlerAction} {t : State} (hreplies : s.handlerReplies = { actions := as, status := status } :: rest)
      (hrun : runActions as (s.setHandlerReplies rest) = .ok t) :
      exec i s = .next (if Config.unimpl op then afterUnimplemented s else { t with handlerReply := some status }) :=
    opcodesRunTheirHandler i op s t _ rest hop h0 hlive hreplies hrun
  have begins (dir : Direction) (a : Addr) (d : Byte) (hidle : s.core.readInFlight = false ∧ s.core.writeInFlight = false) :
      runActions [beginAction dir a d] (s.setHandlerReplies rest) = .ok (afterBegin dir a d (s.setHandlerReplies rest)) :=
    runActions_singleton (runAction_beginAction (s := s.setHandlerReplies rest) (busy_eq_false.mpr hidle) a d)
  have beginsAndSteps (dir : Direction) (a : Addr) (d : Byte) (hidle : s.core.readInFlight = false ∧ s.core.writeInFlight = false) :
      runActions [beginAction dir a d, stepAction dir] (s.setHandlerReplies rest) =
        .ok (afterRow dir (afterBegin dir a d (s.setHandlerReplies rest))) :=
    runActions_beginAction_stepAction (s := s.setHandlerReplies rest) (busy_eq_false.mpr hidle) a d
  have steps (dir : Direction) (hf : inFlight dir (s.setHandlerReplies rest) = true) :
      runActions [stepAction dir] (s.setHandlerReplies rest) = .ok (afterRow dir (s.setHandlerReplies rest)) :=
    runActions_singleton (runAction_stepAction hf)
  exact ⟨fun a hidle hreplies => answers hreplies (begins .read a 0#8 hidle),
    fun a hidle hreplies => answers hreplies (beginsAndSteps .read a 0#8 hidle),
    fun hread hreplies => answers hreplies (steps .read hread),
    fun a d hidle hreplies => answers hreplies (begins .write a d hidle),
    fun a d hidle hreplies => answers hreplies (beginsAndSteps .write a d hidle),
    fun hwrite hreplies => answers hreplies (steps .write hwrite),
    fun _ hreplies => answers hreplies rfl,
    fun _ hreplies => answers hreplies rfl,
    fun hreplies => answers hreplies rfl⟩

/-- Settles O41: the first effect faults in the state with the answer used up. -/
theorem handlerFaultsEndTheInvocation : Obligations.HandlerFaultsEndTheInvocation := by
  intro i op s status more rest hop h0 hlive
  have faults {a : HandlerAction} {f : Fault} (hfault : runAction a (s.setHandlerReplies rest) = .error f)
      (hreplies : s.handlerReplies = { actions := a :: more, status := status } :: rest) :
      exec i s = if Config.unimpl op then .next (afterUnimplemented s) else .fault f := by
    rw [exec_of_listed hop h0 hlive hreplies, afterAnswer_cons_of_error hfault]
  have busy (h : s.core.readInFlight = true ∨ s.core.writeInFlight = true) : (s.setHandlerReplies rest).core.busy = true := busy_eq_true.mpr h
  exact ⟨fun _ h => faults (runAction_begin_busy (d := 0#8) (busy h)).1, fun a _ h => faults (runAction_begin_busy (a := a) (busy h)).2,
    fun hidle => faults (runAction_stepRead_idle hidle), fun hidle => faults (runAction_stepWrite_idle hidle)⟩

/-- Settles O42: the first effect touches neither the kept reply nor the list of answers, so putting these back gives the state it left. -/
theorem handlerEffectsHappenInOrder : Obligations.HandlerEffectsHappenInOrder := by
  intro i op s status a more rest hop h0 hlive hreplies
  cases hu : Config.unimpl op with
  | true => simpa using exec_of_unimpl hop h0 hlive hu
  | false =>
    have hfirst : exec i { s with handlerReplies := { actions := [a], status := status } :: rest } =
        afterAnswer { actions := [a], status := status } (s.setHandlerReplies rest) :=
      exec_of_listed_external (s := s.setHandlerReplies (_ :: rest)) hop h0 hlive hu rfl
    rw [if_neg Bool.false_ne_true, exec_of_listed_external hop h0 hlive hu hreplies, hfirst]
    cases hact : runAction a (s.setHandlerReplies rest) with
    | error f => rw [afterAnswer_cons_of_error hact, afterAnswer_cons_of_error hact]
    | ok u =>
      have halone : afterAnswer { actions := [a], status := status } (s.setHandlerReplies rest) =
          .next (u.setHandlerReply (some status)) := afterAnswer_of_ok (runActions_singleton hact)
      rw [afterAnswer_cons_of_ok hact, halone]
      exact (exec_putBack_of_sameOutsideBlock hop h0 hlive hu (runAction_sameOutsideBlock hact) _).symm

/-! ## NOP's overlapped fetch, tick after tick (R166) -/

/-- NOP's tick runs the fetch, and keeps its reply (R156, R185). -/
theorem exec_tick_nop {s : State} (hlive : s.faultRecord = none) (hexecute : s.core.topState = .execute)
    (hnop : s.core.instructionLatch = 0x00#8) (hwrite : s.core.writeInFlight = false) :
    exec .tick s = .next (afterFetchTick (s.setHandlerReply (some .finalCycle))) := by
  have hhandler : exec (decodeOpcode s.core.instructionLatch) s = .next (s.setHandlerReply (some .finalCycle)) := by
    rw [hnop]
    exact exec_nop hlive
  exact exec_tick_finalCycle hexecute hhandler rfl (.inr hwrite)

/-- The turns of NOP run: its fetch goes on tick by tick, and beside it only the pins and the kept reply change. -/
theorem nop_run {s : State} (hlive : s.faultRecord = none) (hexecute : s.core.topState = .execute)
    (hnop : s.core.instructionLatch = 0x00#8) (hread : s.core.readInFlight = false) (hwrite : s.core.writeInFlight = false)
    (hzero : s.core.halfCycle = 0#3) {turns : List (Option Byte)} (hlen : turns.length ≤ 8) :
    ∃ t, runCommands (drivenTicks turns) s = .next t ∧ FetchAfter s.core turns t.core ∧
      t = { s with
        core := t.core
        pins := t.pins
        handlerReply := if turns = [] then s.handlerReply else some .finalCycle } := by
  induction turns using List.reverseRecOn with
  | nil => exact ⟨s, rfl, .nil hread hwrite hzero, rfl⟩
  | append_singleton turns e ih =>
    rw [List.length_append, List.length_singleton] at hlen
    obtain ⟨t, hrun, hafter, hframe⟩ := ih (by omega)
    have hlive' : t.faultRecord = none := by rw [hframe, hlive]
    have hexecute' : t.core.topState = .execute := by simp [hafter.topState, hexecute]
    have hnop' : t.core.instructionLatch = 0x00#8 := by rw [hafter.instructionLatch, if_neg (by omega), hnop]
    have htick := exec_tick_nop (s := afterEnvironment e t) (by simpa using hlive') (by simpa using hexecute') (by simpa using hnop')
      (by simpa using hafter.writeInFlight)
    refine ⟨_, runCommands_drivenTicks_concat hrun hlive' htick, hafter.concat (by omega) e, ?_⟩
    rw [if_neg (by simp)]
    cases e <;> rw [hframe] <;> rfl

/-- Settles O32: what the fetch of the run has done by its length, and that the reply was kept. -/
theorem nopOverlapsTheNextFetch : Obligations.NopOverlapsTheNextFetch := by
  intro s turns hlive hexecute hnop hread hwrite hzero hone hlen
  have hturns : turns ≠ [] := List.length_pos_iff.mp hone
  obtain ⟨t, hrun, hafter, hframe⟩ := nop_run hlive hexecute hnop hread hwrite hzero hlen
  refine ⟨t, hrun, ?_, ?_, hafter.addressLatch hturns, ?_, ?_, hafter.writeInFlight, by rw [hframe], ?_, fun hshort => ?_,
    fun hfull e he => ?_⟩
  · simp [hafter.topState, hexecute]
  · rw [hafter.programCounter, if_neg hturns]
  · rw [hafter.halfCycle, BitVec.toNat_ofNat]
  · simp [hafter.readInFlight, hturns]
  · rw [hframe, if_neg hturns]
  · rw [hafter.instructionLatch, if_neg hshort.ne, hnop]
  · rw [hafter.instructionLatch, if_pos hfull, hafter.sampled e he]

end Sys2Proof.Proofs
end

/-! Proofs of the family 60_exceptions: where a fault is raised and what it records (R201), and the stop after it (R202, R29). -/

section
namespace Sys2Proof.Proofs

open Sys2Proof.Machine

/-! ## Faults raised by a begin or a step -/

/-- The faults a bus command can raise in `s`: a begin's with a transaction in flight, a step's with none in flight of its direction
(R110 to R113, R201). -/
inductive RaisedIn (s : State) : Fault → Prop
  | beginBusy (dir : Direction) (hbusy : s.core.busy = true) : RaisedIn s (raiseBeginBusy (beginBusCommand dir) s)
  | stepIdle (dir : Direction) (hidle : inFlight dir s = false) : RaisedIn s (raiseStepIdle (stepBusCommand dir) s)

/-- A mapped result is an error only where the result is that error. -/
theorem except_map_error {ε α β : Type} {g : α → β} {r : Except ε α} {e : ε} (h : r.map g = .error e) : r = .error e := by
  cases r with
  | ok a => cases h
  | error e' => cases h; rfl

section Raised
variable {s : State} {f : Fault}

theorem beginRead_raisedIn {a : Addr} (h : beginRead a s = .error f) : RaisedIn s f := by
  rcases beginRead_cases h with ⟨_, he⟩ | ⟨hbusy, he⟩ <;> cases he
  exact .beginBusy .read hbusy

theorem beginWrite_raisedIn {a : Addr} {d : Byte} (h : beginWrite a d s = .error f) : RaisedIn s f := by
  rcases beginWrite_cases h with ⟨_, he⟩ | ⟨hbusy, he⟩ <;> cases he
  exact .beginBusy .write hbusy

theorem stepRead_raisedIn (h : stepRead s = .error f) : RaisedIn s f := by
  rcases stepRead_cases h with ⟨_, _, he⟩ | ⟨_, _, he⟩ | ⟨hidle, he⟩ <;> cases he
  exact .stepIdle .read hidle

theorem stepWrite_raisedIn (h : stepWrite s = .error f) : RaisedIn s f := by
  rcases stepWrite_cases h with ⟨_, _, he⟩ | ⟨_, _, he⟩ | ⟨hidle, he⟩ <;> cases he
  exact .stepIdle .write hidle

/-- The fetch faults as the begin it issues (R168). -/
theorem fetchStep_raisedIn (h : fetchStep s = .error f) : RaisedIn s f := by
  rcases fetchStep_cases h with ⟨_, _, he⟩ | ⟨_, _, he⟩ | ⟨_, hwrite, he⟩ <;> cases he
  exact .beginBusy .read (busy_eq_true.mpr (.inr hwrite))

theorem fetchAfterHandler_raisedIn (h : fetchAfterHandler s = .error f) : RaisedIn s f := by
  rcases fetchAfterHandler_cases h with ⟨_, hfetch⟩ | ⟨_, he⟩
  · exact fetchStep_raisedIn hfetch
  · cases he

theorem runAction_raisedIn {a : HandlerAction} (h : runAction a s = .error f) : RaisedIn s f := by
  cases a with
  | beginRead x => exact beginRead_raisedIn h
  | beginWrite x d => exact beginWrite_raisedIn h
  | stepRead => exact stepRead_raisedIn (except_map_error h)
  | stepWrite => exact stepWrite_raisedIn (except_map_error h)
  | setProgramCounter v => cases h
  | setOwn v => cases h

/-- What a fault raised in `s` leaves is `s` with the record written, and the record and the flags agree with the code (R201, R202). -/
theorem RaisedIn.left_record (h : RaisedIn s f) :
    f.left.core = s.core ∧ f.left.pins = s.pins ∧
    ∃ command, f.left.faultRecord = some { code := f.code, command := command, halfCycle := s.core.halfCycle } ∧
      (f.code = .beginBusy → (command = .beginRead ∨ command = .beginWrite) ∧
        (s.core.readInFlight = true ∨ s.core.writeInFlight = true)) ∧
      (f.code = .stepIdle → (command = .stepRead ∧ s.core.readInFlight = false) ∨
        (command = .stepWrite ∧ s.core.writeInFlight = false)) := by
  cases h with
  | beginBusy dir hbusy =>
    have hbegin : beginBusCommand dir = .beginRead ∨ beginBusCommand dir = .beginWrite := by
      cases dir with
      | read => exact .inl rfl
      | write => exact .inr rfl
    exact ⟨rfl, rfl, _, rfl, fun _ => ⟨hbegin, busy_eq_true.mp hbusy⟩, nofun⟩
  | stepIdle dir hidle =>
    refine ⟨rfl, rfl, _, rfl, nofun, fun _ => ?_⟩
    cases dir with
    | read => exact .inl ⟨rfl, hidle⟩
    | write => exact .inr ⟨rfl, hidle⟩

end Raised

/-! ## The instruction that faults -/

/-- An opcode's row is a guarded command: NOP, which cannot fault, or an invocation (R185 to R187). -/
theorem exec_opcode_guarded {i : Instr} (hi : i.opcode ≠ none) (s : State) :
    (∃ t, exec i s = guarded s (.ok t)) ∨ ∃ op, exec i s = guarded s (invokeOpcode op s) := by
  obtain ⟨op, hop⟩ := Option.ne_none_iff_exists'.mp hi
  by_cases h0 : op = 0#8
  · subst h0
    cases eq_nop_of_opcode hop
    exact .inl ⟨_, rfl⟩
  · exact .inr ⟨op, exec_of_opcode hop h0 s⟩

/-- A fault is raised by a bus command in a state that differs from `s` only by what the instruction did before it, which moves neither
the half-cycle nor the phase (R202). -/
def RaisedAfter (s : State) (f : Fault) : Prop := ∃ t, InvFrame s t ∧ RaisedIn t f

section Faults
variable {s : State} {f : Fault}

theorem RaisedIn.raisedAfter (h : RaisedIn s f) : RaisedAfter s f := ⟨s, ⟨rfl, rfl, rfl, id⟩, h⟩

theorem guarded_ok_not_fault {t : State} : guarded s (.ok t) ≠ .fault f := fun h => nomatch (guarded_fault h).2

theorem harnessSet_not_fault (w : HarnessWrite) : harnessSet w s ≠ .fault f := by
  intro h
  unfold harnessSet at h
  cases hmode : s.core.topState with
  | fetch | execute => simp [hmode] at h
  | test => cases happly : w.apply s <;> simp [hmode, happly] at h

/-- An invocation faults at one of its effects, after the effects before it (R182, R202). -/
theorem invokeOpcode_raisedAfter {op : Byte} (h : invokeOpcode op s = .error f) : RaisedAfter s f := by
  obtain ⟨_, hrun⟩ := invokeOpcode_error h
  obtain ⟨a, t, hbefore, ha⟩ :=
    runActions_error HandlerFrame.refl (fun _ _ _ => .trans) (fun _ _ _ => runAction_handlerFrame) _ _ _ hrun
  exact ⟨t, ((dispatchReply_handlerFrame op s).trans hbefore).toInvFrame, runAction_raisedIn ha⟩

theorem exec_opcode_raisedAfter {i : Instr} (hi : i.opcode ≠ none) (h : exec i s = .fault f) : RaisedAfter s f := by
  rcases exec_opcode_guarded hi s with ⟨t, he⟩ | ⟨op, he⟩ <;> rw [he] at h
  · exact absurd h guarded_ok_not_fault
  · exact invokeOpcode_raisedAfter (guarded_fault h).2

/-- The rest of an EXECUTE tick faults where the handler did, or in the fetch after it (R157, R168). -/
theorem finishExecuteTick_fault {o : Host.Outcome State Fault Refusal} (h : finishExecuteTick o = .fault f) :
    o = .fault f ∨ ∃ t, o = .next t ∧ fetchAfterHandler t = .error f := by
  cases o with
  | next t =>
    refine .inr ⟨t, rfl, except_map_error (g := advance) ?_⟩
    simp only [finishExecuteTick] at h
    cases hend : endTick (fetchAfterHandler t) <;> rw [hend] at h <;> cases h
    exact hend
  | fault g => exact .inl h
  | refused r => cases h

/-- A tick faults in its fetch or in its handler, so before its `advance` (R150, R202). -/
theorem tick_raisedAfter (h : exec .tick s = .fault f) : RaisedAfter s f := by
  cases hmode : s.core.topState with
  | fetch =>
    have h : guarded s (endTick (fetchStep s)) = .fault f := by simpa only [exec, execTick, hmode] using h
    exact (fetchStep_raisedIn (except_map_error (guarded_fault h).2)).raisedAfter
  | execute =>
    rw [exec_tick_execute hmode] at h
    rcases finishExecuteTick_fault h with hhandler | ⟨t, hhandler, hfetch⟩
    · exact exec_opcode_raisedAfter (decodeOpcode_isOpcode _) hhandler
    · exact ⟨t, (exec_opcode_handlerFrame (decodeOpcode_isOpcode _) hhandler).toInvFrame, fetchAfterHandler_raisedIn hfetch⟩
  | test =>
    have h : guarded s (endTick (.ok s)) = .fault f := by simpa only [exec, execTick, hmode] using h
    exact absurd h guarded_ok_not_fault

/-- Every fault comes from a begin or a step, of a bus command, a handler or the fetch (R201). -/
theorem exec_raisedAfter {i : Instr} (h : exec i s = .fault f) : RaisedAfter s f := by
  rcases instr_cases i with ho | rfl | rfl | rfl | ⟨a, rfl⟩ | ⟨a, d, rfl⟩ | rfl | rfl | rfl | ⟨d, rfl⟩ | ⟨w, rfl⟩
  · exact exec_opcode_raisedAfter ho h
  · exact tick_raisedAfter h
  · exact absurd h guarded_ok_not_fault
  · exact absurd h guarded_ok_not_fault
  · exact (beginRead_raisedIn (guarded_fault h).2).raisedAfter
  · exact (beginWrite_raisedIn (guarded_fault h).2).raisedAfter
  · exact (stepRead_raisedIn (except_map_error (guarded_fault h).2)).raisedAfter
  · exact (stepWrite_raisedIn (except_map_error (guarded_fault h).2)).raisedAfter
  · exact absurd h guarded_ok_not_fault
  · exact absurd h guarded_ok_not_fault
  · exact absurd (ifLive_fault h).2 (harnessSet_not_fault w)

end Faults

/-- Settles O56: a fault records the state it is raised in, and nothing the instruction did before it moved the half-cycle or the phase. -/
theorem faultsRecordTheirCauseAndDoNotAdvance : Obligations.FaultsRecordTheirCauseAndDoNotAdvance := by
  intro i s f h
  obtain ⟨t, hbefore, hraised⟩ := exec_raisedAfter h
  obtain ⟨hcore, hpins, hrecord⟩ := hraised.left_record
  rw [hcore, hpins, ← hbefore.halfCycle]
  exact ⟨rfl, hbefore.phase, hrecord⟩

/-! ## After a fault -/

section AfterFault
variable {s : State} {f : FaultRecord} (hfault : s.faultRecord = some f)
include hfault

theorem exec_opcode_faulted {i : Instr} (hi : i.opcode ≠ none) : exec i s = .refused .afterFault := by
  rcases exec_opcode_guarded hi s with ⟨t, he⟩ | ⟨op, he⟩ <;> rw [he] <;> exact ifLive_faulted hfault _

theorem exec_tick_faulted : exec .tick s = .refused .afterFault := by
  cases hmode : s.core.topState with
  | execute =>
    rw [exec_tick_execute hmode, exec_opcode_faulted hfault (decodeOpcode_isOpcode _)]
    rfl
  | fetch | test =>
    simp only [exec, execTick, hmode]
    exact ifLive_faulted hfault _

/-- A fault recorded stops every instruction (R202). -/
theorem exec_faulted (i : Instr) : exec i s = .refused .afterFault := by
  rcases instr_cases i with ho | rfl | rfl | rfl | ⟨a, rfl⟩ | ⟨a, d, rfl⟩ | rfl | rfl | rfl | ⟨d, rfl⟩ | ⟨w, rfl⟩
  · exact exec_opcode_faulted hfault ho
  · exact exec_tick_faulted hfault
  all_goals exact ifLive_faulted hfault _

end AfterFault

/-- Settles O57: a step is one instruction, and taking its command off the list leaves the record. -/
theorem noCommandRunsAfterAFault : Obligations.NoCommandRunsAfterAFault := by
  intro i s f hfault
  obtain ⟨j, u, hstep, hu⟩ := step_eq_exec s
  have hfault' : u.faultRecord = some f := by
    rcases hu with rfl | ⟨l, rfl⟩ <;> exact hfault
  exact ⟨exec_faulted hfault i, hstep.trans (exec_faulted hfault' j)⟩

end Sys2Proof.Proofs
end

/-! Proofs of the family 70_reset_and_hazards: what RESET leaves (R230, R233), who may end a transaction early (R231), and what the data pins and
the strobes show during and after a transaction (R241, R245). -/

section
namespace Sys2Proof.Proofs

open Sys2Proof.Machine

/-! ## What RESET leaves -/

theorem exec_reset {s : State} (hlive : s.faultRecord = none) : exec .reset s = .next (resetState s) := guarded_live hlive _

/-- Settles O2: the reset state takes its low address pins and its data pins from the next draws. -/
theorem resetGivesTheResetStateInEveryMode : Obligations.ResetGivesTheResetStateInEveryMode := fun s hlive =>
  ⟨Config.resetAddrLow s.draws, Config.resetData s.draws, resetState s, exec_reset hlive, rfl⟩

/-- Settles O3: A15 is high whatever the draw of the low address pins. -/
theorem pinsAreIdleRightAfterReset : Obligations.PinsAreIdleRightAfterReset := by
  intro s t h
  obtain ⟨_, rfl⟩ := exec_reset_next h
  have ha15 : (0x8000#16 ||| (Config.resetAddrLow s.draws).setWidth 16).getLsbD 15 = true := by simp
  exact ⟨rfl, rfl, rfl, ha15⟩

/-! ## A transaction in flight stays in flight before row 7 (R58, R231) -/

/-- What runs in one half-cycle before row 7 keeps a transaction in flight in flight. -/
structure KeepsInFlight (s t : State) : Prop where
  halfCycle : t.core.halfCycle = s.core.halfCycle
  stays (dir : Direction) : s.core.halfCycle ≠ 7#3 → inFlight dir s = true → inFlight dir t = true

section KeepsInFlight
variable {s t u : State}

/-- Each flag that is set stays set, in any row. -/
theorem KeepsInFlight.of_flags (hhalf : t.core.halfCycle = s.core.halfCycle) (hread : s.core.readInFlight = true → t.core.readInFlight = true)
    (hwrite : s.core.writeInFlight = true → t.core.writeInFlight = true) : KeepsInFlight s t where
  halfCycle := hhalf
  stays dir _ := by
    cases dir with
    | read => exact hread
    | write => exact hwrite

theorem KeepsInFlight.of_row_seven (hhalf : t.core.halfCycle = s.core.halfCycle) (hseven : s.core.halfCycle = 7#3) : KeepsInFlight s t :=
  ⟨hhalf, fun _ h => absurd hseven h⟩

theorem KeepsInFlight.refl (s : State) : KeepsInFlight s s := .of_flags rfl id id

theorem KeepsInFlight.trans (f : KeepsInFlight s t) (g : KeepsInFlight t u) : KeepsInFlight s u where
  halfCycle := g.halfCycle.trans f.halfCycle
  stays dir hrow := g.stays dir (f.halfCycle ▸ hrow) ∘ f.stays dir hrow

/-- Of a handler's effects only a step at row 7 takes a transaction out of flight (R183, R127). -/
theorem runAction_keepsInFlight {a : HandlerAction} (h : runAction a s = .ok t) : KeepsInFlight s t := by
  rcases runAction_cases h with ⟨_, _, _, rfl⟩ | ⟨_, _, _, _, rfl⟩ | ⟨_, _, hseven, rfl⟩ | ⟨_, _, _, rfl⟩ | ⟨_, _, hseven, rfl⟩ |
    ⟨_, _, _, rfl⟩ | ⟨_, _, rfl⟩ | ⟨_, _, rfl⟩
  · exact .of_flags rfl (fun _ => rfl) id
  · exact .of_flags rfl id (fun _ => rfl)
  · exact .of_row_seven rfl hseven
  · exact .of_flags rfl id id
  · exact .of_row_seven rfl hseven
  · exact .of_flags rfl id id
  · exact .of_flags rfl id id
  · exact .of_flags rfl id id

theorem dispatchReply_keepsInFlight (op : Byte) (s : State) : KeepsInFlight s (dispatchReply op s).2 := by
  rcases dispatchReply_state op s with h | ⟨l, h⟩ <;> rw [h]
  · exact .refl s
  · exact .of_flags rfl id id

theorem invokeOpcode_keepsInFlight {op : Byte} (h : invokeOpcode op s = .ok t) : KeepsInFlight s t := by
  rcases invokeOpcode_cases h with ⟨_, rfl⟩ | ⟨_, u, hrun, rfl⟩
  · exact .of_flags rfl id id
  · have hactions : KeepsInFlight (dispatchReply op s).2 u :=
      runActions_relates .refl (fun _ _ _ => .trans) (fun _ _ _ => runAction_keepsInFlight) _ _ _ hrun
    exact ((dispatchReply_keepsInFlight op s).trans hactions).trans (.of_flags rfl id id)

theorem exec_opcode_keepsInFlight {i : Instr} (hi : i.opcode ≠ none) (h : exec i s = .next t) : KeepsInFlight s t := by
  obtain ⟨_, ⟨_, rfl⟩ | ⟨op, _, _, hinvoke⟩⟩ := exec_opcode_next hi h
  · exact .of_flags rfl id id
  · exact invokeOpcode_keepsInFlight hinvoke

/-- The fetch completes its read at row 7 alone, and leaves a write alone (R152, R154). -/
theorem fetchStep_keepsInFlight (h : fetchStep s = .ok t) : KeepsInFlight s t := by
  have hhalf := (fetchStep_fetchFrame h).halfCycle
  rcases fetchStep_cases h with ⟨_, hseven, _⟩ | ⟨_, _, he⟩ | ⟨_, _, he⟩
  · exact .of_row_seven hhalf hseven
  · cases he
    rw [withFetchInFlight_eq] at hhalf ⊢
    exact .of_flags hhalf (fun _ => rfl) id
  · cases he

theorem fetchAfterHandler_keepsInFlight (h : fetchAfterHandler s = .ok t) : KeepsInFlight s t := by
  rcases fetchAfterHandler_cases h with ⟨_, hfetch⟩ | ⟨_, he⟩
  · exact fetchStep_keepsInFlight hfetch
  · cases he
    exact .refl s

/-- What a tick does before its `advance`. -/
theorem tick_keepsInFlight (h : exec .tick s = .next t) : ∃ v, t = advance v ∧ KeepsInFlight s v := by
  rcases tick_next h with ⟨_, _, v, hfetch, rfl⟩ | ⟨_, u, v, hhandler, hfetch, rfl⟩ | ⟨_, _, rfl⟩
  · exact ⟨v, rfl, fetchStep_keepsInFlight hfetch⟩
  · exact ⟨v, rfl, (exec_opcode_keepsInFlight (decodeOpcode_isOpcode _) hhandler).trans (fetchAfterHandler_keepsInFlight hfetch)⟩
  · exact ⟨s, rfl, .refl s⟩

theorem inFlight_advance (dir : Direction) (s : State) : inFlight dir (advance s) = inFlight dir s := by cases dir <;> rfl

/-- The commands but a tick, ADVANCE and RESET run within one half-cycle; each of them can end a transaction at row 7 alone. -/
theorem exec_keepsInFlight {i : Instr} (htick : i ≠ .tick) (hadvance : i ≠ .advance) (hreset : i ≠ .reset) (h : exec i s = .next t) :
    KeepsInFlight s t := by
  rcases instr_cases i with ho | rfl | rfl | rfl | ⟨a, rfl⟩ | ⟨a, d, rfl⟩ | rfl | rfl | rfl | ⟨d, rfl⟩ | ⟨w, rfl⟩
  · exact exec_opcode_keepsInFlight ho h
  · exact absurd rfl htick
  · exact absurd rfl hreset
  · obtain ⟨_, rfl⟩ := exec_enterTest_next h
    exact .of_flags rfl id id
  · obtain ⟨_, _, rfl⟩ := exec_beginRead_next h
    exact .of_flags rfl (fun _ => rfl) id
  · obtain ⟨_, _, rfl⟩ := exec_beginWrite_next h
    exact .of_flags rfl id (fun _ => rfl)
  · obtain ⟨_, _, rfl⟩ := exec_stepRead_next h
    by_cases hseven : s.core.halfCycle = 7#3
    · exact .of_row_seven rfl hseven
    · exact .of_flags rfl (fun _ => decide_eq_true hseven) id
  · obtain ⟨_, _, rfl⟩ := exec_stepWrite_next h
    by_cases hseven : s.core.halfCycle = 7#3
    · exact .of_row_seven rfl hseven
    · exact .of_flags rfl id (fun _ => decide_eq_true hseven)
  · exact absurd rfl hadvance
  · obtain ⟨_, rfl⟩ := exec_driveData_next h
    exact .of_flags rfl id id
  · obtain ⟨_, _, happly⟩ := exec_harnessSet_next h
    cases w <;> cases happly <;> exact .of_flags rfl id id

/-- Before row 7, an instruction other than RESET leaves a transaction in flight; the `advance` of a tick touches no flag. -/
theorem exec_inFlight_stays {i : Instr} (hreset : i ≠ .reset) (hrow : s.core.halfCycle ≠ 7#3) (h : exec i s = .next t) (dir : Direction)
    (hf : inFlight dir s = true) : inFlight dir t = true := by
  by_cases htick : i = .tick
  · subst htick
    obtain ⟨v, rfl, hkeeps⟩ := tick_keepsInFlight h
    rw [inFlight_advance]
    exact hkeeps.stays dir hrow hf
  by_cases hadvance : i = .advance
  · subst hadvance
    obtain ⟨_, rfl⟩ := exec_advance_next h
    rwa [inFlight_advance]
  exact (exec_keepsInFlight htick hadvance hreset h).stays dir hrow hf

end KeepsInFlight

/-- Settles O53: a read and a write alike. -/
theorem onlyResetEndsATransactionEarly : Obligations.OnlyResetEndsATransactionEarly := fun _ _ _ h hreset hrow =>
  ⟨exec_inFlight_stays hreset hrow h .read, exec_inFlight_stays hreset hrow h .write⟩

/-! ## What the rows do to the strobes and the data pins -/

section RowStrobes
variable (hc3 : HramWriteHc3) (dir : Direction) (r : Region) (h : HalfCycle) (l : Addr) (d : Byte) (p : PinSet)

/-- Row 0 pulls RD low, and row 1 of a read outside the HRAM_IO class pulls it high again; no other row writes it (R121, R122). -/
theorem rowPins_readStrobe : (rowPins hc3 dir r h l d p).readStrobe =
    if h = 0#3 then false else if h = 1#3 ∧ dir = .read ∧ r ≠ .hramIo then true else p.readStrobe := by
  rcases halfCycle_cases h with rfl | rfl | rfl | rfl | rfl | rfl | rfl | rfl
  · rfl
  · cases dir <;> cases r <;> rfl
  · cases r <;> rfl
  · cases dir <;> cases r <;> rfl
  · rfl
  · rfl
  · cases dir <;> rfl
  · rfl

/-- Row 0 pulls WR high, row 3 of a write pulls it low where HRAM_WRITE_HC3 does not say NONE, and row 6 of a write pulls it high again (R121,
R124, R126). -/
theorem rowPins_writeStrobe : (rowPins hc3 dir r h l d p).writeStrobe =
    if h = 0#3 ∨ h = 6#3 ∧ dir = .write then true
    else if h = 3#3 ∧ dir = .write ∧ (r ≠ .hramIo ∨ hc3 ≠ .none) then false else p.writeStrobe := by
  rcases halfCycle_cases h with rfl | rfl | rfl | rfl | rfl | rfl | rfl | rfl
  · rfl
  · cases dir <;> cases r <;> rfl
  · cases r <;> rfl
  · cases dir <;> cases r <;> cases hc3 <;> rfl
  · rfl
  · rfl
  · cases dir <;> rfl
  · rfl

/-- Row 3 of a write drives the byte, but in the HRAM_IO class only under FULL; no other row writes the data pins (R124). -/
theorem rowPins_data : (rowPins hc3 dir r h l d p).data =
    if h = 3#3 ∧ dir = .write ∧ (r ≠ .hramIo ∨ hc3 = .full) then d else p.data := by
  rcases halfCycle_cases h with rfl | rfl | rfl | rfl | rfl | rfl | rfl | rfl
  · rfl
  · cases r <;> rfl
  · cases r <;> rfl
  · cases dir <;> cases r <;> cases hc3 <;> rfl
  · rfl
  · rfl
  · cases dir <;> rfl
  · rfl

end RowStrobes

/-! ## The strobes from row to row (R128, R241) -/

/-- The strobes after rows 0 to `n` - 1 of a transaction at `a`: RD is low but after row 1 of a read outside the HRAM_IO class, and WR is low
after rows 3 to 5 of a write alone, where HRAM_WRITE_HC3 lets it. -/
structure StrobesAfter (dir : Direction) (a : Addr) (n : Nat) (p : PinSet) : Prop where
  read : 1 ≤ n → p.readStrobe = decide (2 ≤ n ∧ dir = .read ∧ region a ≠ .hramIo)
  write : 1 ≤ n →
    p.writeStrobe = decide (n < 4 ∨ 6 < n ∨ dir = .read ∨ region a = .hramIo ∧ Config.hramWriteHc3 = .none)

@[simp] theorem afterEnvironment_readStrobe (e : Option Byte) (s : State) : (afterEnvironment e s).pins.readStrobe = s.pins.readStrobe := by
  cases e <;> rfl
@[simp] theorem afterEnvironment_writeStrobe (e : Option Byte) (s : State) : (afterEnvironment e s).pins.writeStrobe = s.pins.writeStrobe := by
  cases e <;> rfl

theorem StrobesAfter.succ {dir : Direction} {a : Addr} {n : Nat} {s : State} (h : StrobesAfter dir a n s.pins) (hn : n < 8)
    (htrans : TransactionAt dir a n s) (e : Option Byte) : StrobesAfter dir a (n + 1) (afterTurn dir e s).pins where
  read _ := by
    simp only [afterTurn, advance_eq, afterStep_pins, rowPins_readStrobe, afterEnvironment_core, afterEnvironment_readStrobe, htrans.latch,
      htrans.halfCycle_eq_iff hn (by decide : 0 < 8), htrans.halfCycle_eq_iff hn (by decide : 1 < 8)]
    split_ifs with hzero hone
    · simp [hzero]
    · simp [hone]
    · rw [h.read (by omega), decide_eq_decide]
      by_cases hpull : dir = .read ∧ region a ≠ .hramIo
      · have : n ≠ 1 := fun h1 => hone ⟨h1, hpull⟩
        simp only [hpull.1, hpull.2, ne_eq, not_false_eq_true, and_true]
        omega
      · simp [hpull]
  write _ := by
    simp only [afterTurn, advance_eq, afterStep_pins, rowPins_writeStrobe, afterEnvironment_core, afterEnvironment_writeStrobe, htrans.latch,
      htrans.halfCycle_eq_iff hn (by decide : 0 < 8), htrans.halfCycle_eq_iff hn (by decide : 3 < 8),
      htrans.halfCycle_eq_iff hn (by decide : 6 < 8)]
    split_ifs with hhigh hlow
    · rcases hhigh with rfl | ⟨rfl, _⟩ <;> simp
    · obtain ⟨rfl, rfl, hio⟩ := hlow
      simpa [or_iff_not_imp_left] using hio
    · rw [h.write (by omega), decide_eq_decide]
      by_cases hkept : dir = .read ∨ region a = .hramIo ∧ Config.hramWriteHc3 = .none
      · simp [hkept]
      · obtain ⟨hdir, hpull⟩ := not_or.mp hkept
        have hwrite : dir = .write := by cases dir; exacts [absurd rfl hdir, rfl]
        have h3 : n ≠ 3 := fun h3 => hlow ⟨h3, hwrite, not_and_or.mp hpull⟩
        have h6 : n ≠ 6 := fun h6 => hhigh (.inr ⟨h6, hwrite⟩)
        simp only [hkept, or_false]
        omega

theorem begun_strobes {s : State} (hlive : s.faultRecord = none) (htest : s.core.topState = .test) (hidle : s.core.busy = false)
    (hzero : s.core.halfCycle = 0#3) (dir : Direction) (a : Addr) (d : Byte) {turns : List (Option Byte)} (hlen : turns.length ≤ 8) :
    ∃ t, runCommands (beginCommand dir a d :: steppedTicks (stepCommand dir) turns) s = .next t ∧ StrobesAfter dir a turns.length t.pins :=
  begun_induction (P := fun n s => StrobesAfter dir a n s.pins) hlive htest hidle hzero ⟨nofun, nofun⟩
    (fun _ _ e hn htrans h => h.succ hn htrans e) hlen

/-- Settles O25: the select lines are those of O22, and the strobes are as row 7 leaves them. -/
theorem pinLevelsLeftAfterATransaction : Obligations.PinLevelsLeftAfterATransaction := by
  intro s a d turns hlive htest hread hwrite hzero hlen
  have hrun (dir : Direction) :
      ∃ t, runCommands (beginCommand dir a d :: steppedTicks (stepCommand dir) turns) s = .next t ∧ StrobesAfter dir a 8 t.pins ∧
        (InRom a → t.pins.address.getLsbD 15 = false ∧ t.pins.chipSelect = true) ∧
        (InRam a → t.pins.address.getLsbD 15 = true ∧ t.pins.chipSelect = false) ∧
        (InHramIoClass a → t.pins.address.getLsbD 15 = true ∧ t.pins.chipSelect = true) := by
    obtain ⟨t, hnext, hstrobes⟩ := begun_strobes hlive htest (busy_eq_false.mpr ⟨hread, hwrite⟩) hzero dir a d hlen.le
    obtain ⟨u, hu, hrom, hram, hio⟩ := oneSelectLinePerRegion s a d turns hlive htest hread hwrite hzero (by omega) hlen.le
      (beginCommand dir a d :: steppedTicks (stepCommand dir) turns) (by cases dir; exacts [.inl rfl, .inr rfl])
    obtain rfl : t = u := by simpa [hnext] using hu
    rw [hlen] at hstrobes hrom hram
    exact ⟨t, hnext, hstrobes, hrom, fun h => (hram h).symm, hio⟩
  obtain ⟨t, ht, htstrobes, htrom, htram, htio⟩ := hrun .read
  obtain ⟨u, hu, hustrobes, hurom, huram, huio⟩ := hrun .write
  have hrd (ha : InRom a ∨ InRam a) : t.pins.readStrobe = true := by simpa [region_ne_hramIo ha] using htstrobes.read (by decide)
  refine ⟨⟨t, ht, by simpa using htstrobes.write (by decide), fun h => ⟨hrd (.inl h), htrom h⟩, fun h => ⟨hrd (.inr h), htram h⟩,
    fun h => ⟨?_, htio h⟩⟩, u, hu, by simpa using hustrobes.write (by decide), by simpa using hustrobes.read (by decide), hurom, huram, huio⟩
  simpa [region_hramIoClass h] using htstrobes.read (by decide)

/-! ## The data pins of a write with no device driving (R245, R246) -/

/-- The induction over the rows of a transaction begun at half-cycle 0 in which the environment drives nothing. -/
theorem begun_quiet_induction {P : Nat → State → Prop} {dir : Direction} {a : Addr} {d : Byte} {s : State} (hlive : s.faultRecord = none)
    (htest : s.core.topState = .test) (hidle : s.core.busy = false) (hzero : s.core.halfCycle = 0#3) (hstart : P 0 (afterBegin dir a d s))
    (hrow : ∀ n s, n < 8 → TransactionAt dir a n s → P n s → P (n + 1) (afterTurn dir none s)) {n : Nat} (hn : n ≤ 8) :
    ∃ t, runCommands (beginCommand dir a d :: steppedTicks (stepCommand dir) (List.replicate n none)) s = .next t ∧
      TransactionAt dir a n t ∧ P n t := by
  induction n with
  | zero => exact ⟨_, by simp [runCommands, exec_beginCommand hlive hidle, steppedTicks], afterBegin_transactionAt hlive htest hzero d, hstart⟩
  | succ n ih =>
    obtain ⟨t, hrun, htrans, hP⟩ := ih (by omega)
    refine ⟨afterTurn dir none t, ?_, htrans.succ hn none, hrow n t hn htrans hP⟩
    have hturns : steppedTicks (stepCommand dir) (List.replicate (n + 1) none) =
        steppedTicks (stepCommand dir) (List.replicate n none) ++ (environmentTurn none ++ ([stepCommand dir, .tick] ++ [])) := by
      simp [List.replicate_succ', steppedTicks]
    rw [hturns, ← List.cons_append, runCommands_append, hrun]
    exact htrans.runCommands_turn hn none []

/-- What rows 0 to `n` - 1 of a write of `d` at `a` leave on the data pins, which held `old` at its begin: row 3 puts the byte there, but in the
HRAM_IO class only under FULL. -/
structure DataPinsAfter (a : Addr) (d old : Byte) (n : Nat) (s : State) : Prop where
  latch : s.core.dataLatch = d
  pins : s.pins.data = if 4 ≤ n ∧ (region a ≠ .hramIo ∨ Config.hramWriteHc3 = .full) then d else old

theorem DataPinsAfter.succ {a : Addr} {d old : Byte} {n : Nat} {s : State} (h : DataPinsAfter a d old n s) (hn : n < 8)
    (htrans : TransactionAt .write a n s) : DataPinsAfter a d old (n + 1) (afterTurn .write none s) where
  latch := h.latch
  pins := by
    simp only [afterTurn, advance_eq, afterStep_pins, afterEnvironment, rowPins_data, htrans.latch, h.latch, h.pins,
      htrans.halfCycle_eq_iff hn (by decide : 3 < 8)]
    by_cases hthree : n = 3
    · simp [hthree]
    · have hsame : 4 ≤ n ↔ 4 ≤ n + 1 := by omega
      simp [hthree, hsame]

/-- Settles O24: WR goes with the rows whatever is driven, and the data pins with the write alone, as nothing is driven. -/
theorem writeByteIsOnThePinsFromRowThreeToFive : Obligations.WriteByteIsOnThePinsFromRowThreeToFive := by
  intro s a d n hlive htest hread hwrite hzero hone hn
  have hidle : s.core.busy = false := busy_eq_false.mpr ⟨hread, hwrite⟩
  obtain ⟨t, hrun, _, hdata⟩ := begun_quiet_induction (dir := .write) (a := a) (P := DataPinsAfter a d s.pins.data) hlive htest hidle hzero
    ⟨rfl, rfl⟩ (fun _ _ hn htrans h => h.succ hn htrans) hn
  obtain ⟨u, hu, hstrobes⟩ := begun_strobes (turns := List.replicate n none) hlive htest hidle hzero .write a d (by simpa using hn)
  obtain rfl : t = u := by simpa [hrun] using hu
  rw [List.length_replicate] at hstrobes
  have hd := hdata.pins
  have hwr := hstrobes.write hone
  refine ⟨t, hrun, fun ha => ?_, fun ha => ⟨fun hc3 => ?_, fun hc3 => ?_, fun hc3 => ?_⟩⟩
  · exact ⟨by simpa [region_ne_hramIo ha] using hd, by simpa [region_ne_hramIo ha] using hwr⟩
  · exact ⟨by simpa [hc3] using hd, by simpa [hc3] using hwr⟩
  · exact ⟨by simpa [hc3, region_hramIoClass ha] using hd, by simpa [hc3] using hwr⟩
  · exact ⟨by simpa [hc3, region_hramIoClass ha] using hd, by simpa [hc3, region_hramIoClass ha] using hwr⟩

end Sys2Proof.Proofs
end
